-- ==== Sys2Proof/Word.lean ====
section
/-! DEFINITION. The word types of the ManeDisplay core block: bus bytes, times, colour triples. -/

namespace Sys2Proof

/-- A byte of the bus or of the frame buffer (10_state.md R10, 20_memory.md R40). -/
abbrev Byte := BitVec 8

/-- A time in milliseconds, `TW = 32` bits wide (00_scope.md R5). -/
abbrev Time := BitVec 32

/-- A colour triple: red, green, blue, 8 bits each (30_encoding.md R71). -/
structure Colour where
  r : Byte
  g : Byte
  b : Byte
deriving DecidableEq, Repr, Inhabited

/-- Black, which the spec calls "off" (30_encoding.md R71). -/
def Colour.black : Colour := ⟨0, 0, 0⟩

end Sys2Proof
end

