-- ==== Sys2Proof/Syntax.lean ====
section
/-! DEFINITION. What can be presented to the block: the 26 operations and the wire frame of
spec/opcode_table.json as one inductive, the operand ports, and the inputs of the caller and the
environment. -/

namespace Sys2Proof

/-- Shimmer's parameters (10_state.md R15); every one but `duration` is a rational. -/
structure ShimmerParams where
  px : Rat
  py : Rat
  duration : Nat
  distanceFactor : Rat
  speedFactor : Rat
  initialOffset : Rat
  slope : Rat
deriving DecidableEq, Repr, Inhabited

/-- The kind of an effect context with the configuration registers of that kind (10_state.md R14, R15). -/
inductive FxConfig where
  | solid (color : Colour)
  | timedSolid (color : Colour) (lifetime : Time)
  | flash (color : Colour) (activeHalf : Bool) (seedId : Nat)
  | rainbow (ledCount index : Nat)
  | sparkle
  | shimmer (p : ShimmerParams)
deriving DecidableEq, Repr, Inhabited

/-- One constructor per row of spec/opcode_table.json (30_encoding.md R60, R66). -/
inductive Instr where
  /-- FRAME: a well-formed wire frame, its ten signals and its four spare bits (R60, R61). -/
  | frame (signals : BitVec 10) (spare : BitVec 4)
  /-- FR_CLEAR (R80). -/
  | frClear
  /-- FR_LOAD in0, in1 (R81). -/
  | frLoad (in0 in1 : Byte)
  /-- FR_LOAD_RAW in0, in1 (R82). -/
  | frLoadRaw (in0 in1 : Byte)
  /-- FR_SET_BIT k, v (R83). -/
  | frSetBit (k : BitVec 4) (v : Bool)
  /-- FR_GET_BIT k (R84). -/
  | frGetBit (k : BitVec 4)
  /-- FR_IS_ERROR (R85). -/
  | frIsError
  /-- FR_ENCODE vec (R86). -/
  | frEncode (vec : BitVec 10)
  /-- FR_DECODE (R87). -/
  | frDecode
  /-- FR_RX (R88). -/
  | frRx
  /-- FR_TX (R90). -/
  | frTx
  /-- DB_INIT d, stable_time (R100). -/
  | dbInit (d : Nat) (stableTime : Time)
  /-- DB_PROCESS d, now, reading (R101). -/
  | dbProcess (d : Nat) (now : Time) (reading : Bool)
  /-- DB_FORCE d, value (R102). -/
  | dbForce (d : Nat) (value : Bool)
  /-- DB_STABLE d (R103). -/
  | dbStable (d : Nat)
  /-- FX_CONFIG e, kind, parameters (R133). -/
  | fxConfig (e : Nat) (config : FxConfig)
  /-- FX_ACTIVATE e, now (R116). -/
  | fxActivate (e : Nat) (now : Time)
  /-- FX_TICK e, slot, now (R117). -/
  | fxTick (e slot : Nat) (now : Time)
  /-- FX_EXPIRED e, now (R118). -/
  | fxExpired (e : Nat) (now : Time)
  /-- FX_SEED s, now (R124). -/
  | fxSeed (seed : Nat) (now : Time)
  /-- FX_FLASH_PHASE now, seed (R121). -/
  | fxFlashPhase (now seed : Time)
  /-- FX_HUE now, index, led_count (R125). -/
  | fxHue (now : Time) (index ledCount : Nat)
  /-- FX_SHIMMER_LEVEL e, t (R129). -/
  | fxShimmerLevel (e : Nat) (t : Time)
  /-- AG_UPDATE now, four Booleans, three analog levels (R151). -/
  | agUpdate (now : Time) (ignition backlightDim tachWarning tachCritical : Bool)
      (fuel temperature oil : BitVec 16)
  /-- AG_PULSE_Q now (R155). -/
  | agPulseQ (now : Time)
  /-- AG_MODE (R157). -/
  | agMode
  /-- SQ_TICK l, now (R158). -/
  | sqTick (l : Nat) (now : Time)
deriving DecidableEq, Repr

/-- The operand ports beside the opcode, one per operand name of 30_encoding.md R66 and per
configuration register of 10_state.md R15, each of its own width (R65; log 1). -/
structure Ports where
  k : BitVec 4 := 0
  v : Bool := false
  reading : Bool := false
  value : Bool := false
  in0 : Byte := 0
  in1 : Byte := 0
  vec : BitVec 10 := 0
  d : Nat := 0
  e : Nat := 0
  s : Nat := 0
  l : Nat := 0
  slot : Nat := 0
  now : Time := 0
  stableTime : Time := 0
  seed : Time := 0
  t : Time := 0
  index : Nat := 0
  ledCount : Nat := 0
  ignition : Bool := false
  backlightDim : Bool := false
  tachWarning : Bool := false
  tachCritical : Bool := false
  fuel : BitVec 16 := 0
  temperature : BitVec 16 := 0
  oil : BitVec 16 := 0
  kind : BitVec 3 := 0
  color : Colour := Colour.black
  lifetime : Time := 0
  activeHalf : Bool := false
  seedId : Nat := 0
  px : Rat := 0
  py : Rat := 0
  duration : Nat := 0
  distanceFactor : Rat := 0
  speedFactor : Rat := 0
  initialOffset : Rat := 0
  slope : Rat := 0
deriving DecidableEq, Repr

/-- What the caller or the environment presents next (00_scope.md R4, 20_memory.md R52; log 2). -/
inductive Input where
  /-- The caller presents a command word: 8 opcode bits and the operand ports (R65). -/
  | command (op : Byte) (ports : Ports)
  /-- The environment delivers bytes from the shared bus; a well-formed frame is a FRAME (R52, R60; log 3, log 4). -/
  | wire (bytes : List Byte)
  /-- The environment takes the `n` oldest closed transactions out of TX (R52; log 4). -/
  | takeTx (n : Nat)
  /-- Power-on reset of the block (70_reset_and_hazards.md R200; log 14). -/
  | powerOn
deriving DecidableEq, Repr

/-- Why a command is reserved (30_encoding.md R67, 60_exceptions.md R187): the cause of its `op_fault`. -/
inductive Reserved where
  /-- An opcode that is no row of R66. -/
  | unknownOpcode
  /-- A signal index of 10 to 15. -/
  | signalIndex
  /-- A debouncer number outside its bank. -/
  | noSuchDebouncer
  /-- A context number outside its bank. -/
  | noSuchContext
  /-- A seed number outside its bank. -/
  | noSuchSeed
  /-- A sequencer number outside its bank. -/
  | noSuchSequencer
  /-- A colour-buffer slot at or above LED_COUNT. -/
  | slotOutOfRange
  /-- Effect kind 6 or 7. -/
  | effectKind
  /-- A context never configured. -/
  | unconfigured
  /-- A configuration that breaks the constraints of R133. -/
  | badConfiguration
  /-- DB_INIT or FX_CONFIG after the instance's first other operation (R51). -/
  | reconfiguration
  /-- An analog level above 1023 (R151). -/
  | analogRange
  /-- An FX_HUE index at or above its LED count (42_effect_engines.md R125, 92_eei_decisions.md D8; log 8). -/
  | hueIndex
  /-- FX_SHIMMER_LEVEL on a context that is no Shimmer (42_effect_engines.md R129, D8; log 9). -/
  | notShimmer
  /-- A time at or above a Shimmer's duration in FX_SHIMMER_LEVEL (R129, D8; log 9). -/
  | shimmerTime
deriving DecidableEq, Repr

end Sys2Proof
end

