-- ==== Sys2Proof/Config.lean ====
section
/-! DEFINITION. What is fixed for the block: the constants and parameters of 00_scope.md R7, and the
free values of the spec as constants with no body. -/

namespace Sys2Proof.Config

/-- SLAVE_ADDR, the bus address every transmission goes to (00_scope.md R7, 20_memory.md R48). -/
def slaveAddr : Nat := 9

/-- ANALOG_MAX, the largest analog level (00_scope.md R7). -/
def analogMax : Nat := 1023

/-- NUM_SIGNALS, the signals of a frame (00_scope.md R7). -/
def numSignals : Nat := 10

/-- PAYLOAD_BITS, the payload bits of a frame byte (00_scope.md R7). -/
def payloadBits : Nat := 7

/-- The largest dark interval of a Sparkle, 5 × FLASH_DURATION (00_scope.md R7, SPARKLE_MAX_DARK). -/
def sparkleMaxDark (flashDuration : Nat) : Nat := 5 * flashDuration

/-- The block-wide parameters of 00_scope.md R7 that no fixed value settles. A state carries them and no
step changes them; `tickPeriod` (TICK_PERIOD) is a duty of the caller (70_reset_and_hazards.md R204) that no
operation reads, so it is there for claims about tick rates (log 15); LED_COUNT is the length of the sequencer bank, N_DEB that of the debouncer bank, and
STABLE_TIME, POS, SH_* and COL_* stand in the configuration registers. -/
structure Params where
  flashDuration : Nat
  canPulseWidth : Nat
  sparklePulseWidth : Nat
  sparkleColor : Colour
  sparkleDarkColor : Colour
  rainbowPeriod : Nat
  rxDepth : Nat
  tickPeriod : Nat
deriving DecidableEq, Repr

/-- The constraints R7 puts on the parameters held here (LED_COUNT >= 1 stands in `State.Inv`, SH_DURATION >= 1
in `FxConfig.legal`); the third says that a dark interval fits its `TW`-bit register `sp_dark` (10_state.md
R17; log 28). -/
abbrev Params.Ok (p : Params) : Prop :=
  1 ≤ p.flashDuration ∧ 1 ≤ p.rainbowPeriod ∧ sparkleMaxDark p.flashDuration < 2 ^ 32

/-- The parameters of the reset state: R7's defaults, and DESIGN CHOICES where R7 says OPEN (log 15). -/
def Params.atReset : Params where
  flashDuration := 100
  canPulseWidth := 50
  sparklePulseWidth := 20
  sparkleColor := ⟨255, 255, 255⟩
  sparkleDarkColor := Colour.black
  rainbowPeriod := 2560
  rxDepth := 32
  tickPeriod := 10

/-- The conversion of hue, saturation and value to a colour: uninterpreted (00_scope.md R7, 42_effect_engines.md
R126; log 20). -/
opaque hsv2rgb : Byte → Byte → Byte → Colour

/-- FREE VALUE: the fifteen bits of FB other than FB[0][7] after the n-th failed FR_RX (40_framer.md R89; log 6). -/
opaque unreliableFrame : Nat → BitVec 15

/-- FREE VALUE: what context `e` draws for its n-th dark interval, before it is brought into its range
(42_effect_engines.md R127; log 7). -/
opaque sparkleRoll : Nat → Nat → Nat

/-- FREE VALUE: what the bus leaves in RX at the n-th arrival that does not fit
(93_implementation_defined.md item 9; log 5). -/
opaque overflowStream : Nat → List Byte

end Sys2Proof.Config
end

