-- ==== Sys2Proof/WellFormed.lean ====
section
/-! DEFINITION. Which instructions are well formed: the checks of 30_encoding.md R67 and 42_effect_engines.md
R133 that need no state. -/

namespace Sys2Proof

/-- The constraints of R133 on the parameters alone: Rainbow `led_count >= 1` and `index < led_count`,
Shimmer `duration >= 1`. That a Flash names an existing seed is checked against the state. -/
def FxConfig.legal : FxConfig → Bool
  | .solid _ => true
  | .timedSolid _ _ => true
  | .flash _ _ _ => true
  | .rainbow ledCount index => decide (1 ≤ ledCount) && decide (index < ledCount)
  | .sparkle => true
  | .shimmer p => decide (1 ≤ p.duration)

/-- A signal index is 0 to 9, an analog level 0 to 1023, a configuration meets R133. -/
def Instr.wellFormed : Instr → Bool
  | .frSetBit k _ => decide (k.toNat < Config.numSignals)
  | .frGetBit k => decide (k.toNat < Config.numSignals)
  | .fxConfig _ config => config.legal
  | .agUpdate _ _ _ _ _ fuel temperature oil =>
    decide (fuel.toNat ≤ Config.analogMax) && decide (temperature.toNat ≤ Config.analogMax)
      && decide (oil.toNat ≤ Config.analogMax)
  | .frame _ _ | .frClear | .frLoad _ _ | .frLoadRaw _ _ | .frIsError | .frEncode _ | .frDecode | .frRx
  | .frTx | .dbInit _ _ | .dbProcess _ _ _ | .dbForce _ _ | .dbStable _ | .fxActivate _ _
  | .fxTick _ _ _ | .fxExpired _ _ | .fxSeed _ _ | .fxFlashPhase _ _ | .fxHue _ _ _
  | .fxShimmerLevel _ _ | .agPulseQ _ | .agMode | .sqTick _ _ => true

/-- `i` is well formed. -/
abbrev Instr.WellFormed (i : Instr) : Prop := i.wellFormed = true

end Sys2Proof
end

