-- ==== Sys2Proof/Decode.lean ====
section
/-! DEFINITION. The decoder of command words and of the wire frame, total and rejecting by name, and after it
the encoder, written from the same tables (30_encoding.md R60 to R67, R70). -/

namespace Sys2Proof

/-- Why a presented input is no instruction. -/
inductive DecodeError where
  /-- A reserved command word (R67). -/
  | reserved (r : Reserved)
  /-- Two bytes on the wire whose first has bit 7 clear (R64, bad start). -/
  | badStart
  /-- Two bytes on the wire, start marker good, whose second has bit 7 set (R64, bad continuation). -/
  | badContinuation
  /-- Bytes on the wire that are not exactly two (R60). -/
  | notTwoBytes
  /-- An action of the environment that is no row of the opcode table. -/
  | environmentAction
deriving DecidableEq, Repr

/-- The parameters of an FX_CONFIG by its kind code (R70: Solid 0 to Shimmer 5; 6 and 7 reserved). -/
def decodeFxConfig (p : Ports) : Except Reserved FxConfig :=
  match p.kind.toNat with
  | 0 => .ok (.solid p.color)
  | 1 => .ok (.timedSolid p.color p.lifetime)
  | 2 => .ok (.flash p.color p.activeHalf p.seedId)
  | 3 => .ok (.rainbow p.ledCount p.index)
  | 4 => .ok .sparkle
  | 5 => .ok (.shimmer ⟨p.px, p.py, p.duration, p.distanceFactor, p.speedFactor, p.initialOffset, p.slope⟩)
  | _ => .error .effectKind

/-- The row of R66 that an opcode names, its operands taken from their ports, before the operands are
checked: every opcode that is no row is reserved (R67). -/
def readCommand (op : Byte) (p : Ports) : Except Reserved Instr :=
  match op.toNat with
  | 0x00 => .ok .frClear
  | 0x01 => .ok (.frLoad p.in0 p.in1)
  | 0x02 => .ok (.frLoadRaw p.in0 p.in1)
  | 0x03 => .ok (.frSetBit p.k p.v)
  | 0x04 => .ok (.frGetBit p.k)
  | 0x05 => .ok .frIsError
  | 0x06 => .ok (.frEncode p.vec)
  | 0x07 => .ok .frDecode
  | 0x08 => .ok .frRx
  | 0x09 => .ok .frTx
  | 0x10 => .ok (.dbInit p.d p.stableTime)
  | 0x11 => .ok (.dbProcess p.d p.now p.reading)
  | 0x12 => .ok (.dbForce p.d p.value)
  | 0x13 => .ok (.dbStable p.d)
  | 0x20 => (decodeFxConfig p).map (.fxConfig p.e)
  | 0x21 => .ok (.fxActivate p.e p.now)
  | 0x22 => .ok (.fxTick p.e p.slot p.now)
  | 0x23 => .ok (.fxExpired p.e p.now)
  | 0x24 => .ok (.fxSeed p.s p.now)
  | 0x25 => .ok (.fxFlashPhase p.now p.seed)
  | 0x26 => .ok (.fxHue p.now p.index p.ledCount)
  | 0x27 => .ok (.fxShimmerLevel p.e p.t)
  | 0x30 => .ok (.agUpdate p.now p.ignition p.backlightDim p.tachWarning p.tachCritical p.fuel p.temperature p.oil)
  | 0x31 => .ok (.agPulseQ p.now)
  | 0x32 => .ok .agMode
  | 0x33 => .ok (.sqTick p.l p.now)
  | _ => .error .unknownOpcode

/-- Why the operands of an instruction are reserved, where they are (R67, R133, R151). -/
def Instr.reservedOperand : Instr → Reserved
  | .frSetBit _ _ | .frGetBit _ => .signalIndex
  | .fxConfig _ _ => .badConfiguration
  | .agUpdate _ _ _ _ _ _ _ _ => .analogRange
  | .frame _ _ | .frClear | .frLoad _ _ | .frLoadRaw _ _ | .frIsError | .frEncode _ | .frDecode | .frRx
  | .frTx | .dbInit _ _ | .dbProcess _ _ _ | .dbForce _ _ | .dbStable _ | .fxActivate _ _
  | .fxTick _ _ _ | .fxExpired _ _ | .fxSeed _ _ | .fxFlashPhase _ _ | .fxHue _ _ _
  | .fxShimmerLevel _ _ | .agPulseQ _ | .agMode | .sqTick _ _ => .unknownOpcode

/-- The instruction a command word stands for: a row of R66 with admitted operands, or the reason it is
reserved (R67, R75). -/
def decodeCommand (op : Byte) (p : Ports) : Except Reserved Instr :=
  match readCommand op p with
  | .ok i => if i.wellFormed then .ok i else .error i.reservedOperand
  | .error r => .error r

/-- The ten signals of two frame bytes, bit `k` signal `k`: `{b1[2:0], b0[6:0]}` (R61). -/
def signalsOf (b0 b1 : Byte) : BitVec 10 :=
  (b1.extractLsb' 0 3).setWidth 10 <<< 7 ||| (b0.extractLsb' 0 7).setWidth 10

/-- The spare bits of a frame: byte 1 bits 6 to 3 (R60, R63). -/
def spareOf (b1 : Byte) : BitVec 4 := b1.extractLsb' 3 4

/-- Byte 0 of a frame: the start marker 1 and signals 6 to 0 (R60, R61). -/
def frameByte0 (signals : BitVec 10) : Byte := 0x80#8 ||| (signals.extractLsb' 0 7).setWidth 8

/-- Byte 1 of a frame: the continuation marker 0, the spare bits, signals 9 to 7 (R60, R61). -/
def frameByte1 (signals : BitVec 10) (spare : BitVec 4) : Byte :=
  spare.setWidth 8 <<< 3 ||| (signals.extractLsb' 7 3).setWidth 8

/-- The marker bit of a frame byte: bit 7 (00_scope.md R8). -/
def marker (b : Byte) : Bool := b.getLsbD 7

/-- The FRAME that bytes on the wire are, by the marker classes of R64. -/
def decodeWire : List Byte → Except DecodeError Instr
  | [b0, b1] =>
    if marker b0 = false then .error .badStart
    else if marker b1 = true then .error .badContinuation
    else .ok (.frame (signalsOf b0 b1) (spareOf b1))
  | _ => .error .notTwoBytes

/-- The decoder, total on whatever is presented. -/
def decode : Input → Except DecodeError Instr
  | .command op p =>
    match decodeCommand op p with
    | .ok i => .ok i
    | .error r => .error (.reserved r)
  | .wire bytes => decodeWire bytes
  | .takeTx _ => .error .environmentAction
  | .powerOn => .error .environmentAction

/-! ### The encoder -/

/-- The kind code of a configuration (R70). -/
def FxConfig.kind : FxConfig → BitVec 3
  | .solid _ => 0
  | .timedSolid _ _ => 1
  | .flash _ _ _ => 2
  | .rainbow _ _ => 3
  | .sparkle => 4
  | .shimmer _ => 5

/-- The ports of an FX_CONFIG: the context, the kind code, the parameters of the kind. -/
def encodeFxConfig (e : Nat) (c : FxConfig) : Ports :=
  match c with
  | .solid color => { e := e, kind := c.kind, color := color }
  | .timedSolid color lifetime => { e := e, kind := c.kind, color := color, lifetime := lifetime }
  | .flash color activeHalf seedId =>
    { e := e, kind := c.kind, color := color, activeHalf := activeHalf, seedId := seedId }
  | .rainbow ledCount index => { e := e, kind := c.kind, ledCount := ledCount, index := index }
  | .sparkle => { e := e, kind := c.kind }
  | .shimmer p =>
    { e := e, kind := c.kind, px := p.px, py := p.py, duration := p.duration,
      distanceFactor := p.distanceFactor, speedFactor := p.speedFactor,
      initialOffset := p.initialOffset, slope := p.slope }

/-- How an instruction is presented: its opcode and ports (R66), or its two bytes on the wire (R60). -/
def encode : Instr → Input
  | .frame signals spare => .wire [frameByte0 signals, frameByte1 signals spare]
  | .frClear => .command 0x00 {}
  | .frLoad in0 in1 => .command 0x01 { in0 := in0, in1 := in1 }
  | .frLoadRaw in0 in1 => .command 0x02 { in0 := in0, in1 := in1 }
  | .frSetBit k v => .command 0x03 { k := k, v := v }
  | .frGetBit k => .command 0x04 { k := k }
  | .frIsError => .command 0x05 {}
  | .frEncode vec => .command 0x06 { vec := vec }
  | .frDecode => .command 0x07 {}
  | .frRx => .command 0x08 {}
  | .frTx => .command 0x09 {}
  | .dbInit d stableTime => .command 0x10 { d := d, stableTime := stableTime }
  | .dbProcess d now reading => .command 0x11 { d := d, now := now, reading := reading }
  | .dbForce d value => .command 0x12 { d := d, value := value }
  | .dbStable d => .command 0x13 { d := d }
  | .fxConfig e c => .command 0x20 (encodeFxConfig e c)
  | .fxActivate e now => .command 0x21 { e := e, now := now }
  | .fxTick e slot now => .command 0x22 { e := e, slot := slot, now := now }
  | .fxExpired e now => .command 0x23 { e := e, now := now }
  | .fxSeed s now => .command 0x24 { s := s, now := now }
  | .fxFlashPhase now seed => .command 0x25 { now := now, seed := seed }
  | .fxHue now index ledCount => .command 0x26 { now := now, index := index, ledCount := ledCount }
  | .fxShimmerLevel e t => .command 0x27 { e := e, t := t }
  | .agUpdate now ignition backlightDim tachWarning tachCritical fuel temperature oil =>
    .command 0x30 { now := now, ignition := ignition, backlightDim := backlightDim,
                    tachWarning := tachWarning, tachCritical := tachCritical, fuel := fuel,
                    temperature := temperature, oil := oil }
  | .agPulseQ now => .command 0x31 { now := now }
  | .agMode => .command 0x32 {}
  | .sqTick l now => .command 0x33 { l := l, now := now }

/-! ### Words of the opcode table -/

/-- What a word of the opcode table presents: an 8-bit row is an opcode with every operand port 0 (R65), a
16-bit row the wire frame whose byte 0 is bits 15 to 8 (spec/opcode_table.json, FRAME). -/
def tableInput (nbits w : Nat) : Input :=
  if nbits ≤ 8 then .command (BitVec.ofNat 8 w) {}
  else .wire [BitVec.ofNat 8 (w / 256), BitVec.ofNat 8 w]

/-- The instruction the decoder reads from a word of the opcode table. -/
def decodeTableWord (nbits w : Nat) : Option Instr :=
  match decode (tableInput nbits w) with
  | .ok i => some i
  | .error _ => none

end Sys2Proof
end

