-- ==== Sys2Proof/Machine/State.lean ====
section
/-! DEFINITION. The state of the block and of the spaces it reaches, as plain data, and the state right after
reset (10_state.md R10 to R27, 20_memory.md R40 to R43). -/

namespace Sys2Proof.Machine

/-- The frame buffer, or a stored frame: two bytes (10_state.md R10). -/
structure Frame where
  b0 : Byte
  b1 : Byte
deriving DecidableEq, Repr

/-- The registers of one debouncer (10_state.md R12, R13). -/
structure Debouncer where
  stable : Bool
  prev : Bool
  tchg : Time
  tstable : Time
deriving DecidableEq, Repr

/-- The registers of one effect context (10_state.md R14, R15, R17). `none` in `config` is "never
configured" (30_encoding.md R67), in a timestamp the spec's "no value" (R26; log 11). `rolls` is the model's
own count of the dark intervals drawn (log 7). -/
structure Context where
  config : Option FxConfig
  tact : Option Time
  spT0 : Option Time
  spDark : Option Time
  rolls : Nat
deriving DecidableEq, Repr

/-- The discrete and analog registers of the snapshot, which AG_UPDATE writes together (10_state.md R18). -/
structure RawInputs where
  ignition : Bool
  backlightDim : Bool
  tachWarning : Bool
  tachCritical : Bool
  fuel : BitVec 16
  temperature : BitVec 16
  oil : BitVec 16
deriving DecidableEq, Repr

/-- EffectMode, in its cyclic order (30_encoding.md R69). -/
inductive EffectMode where
  | none | rainbow | sparkle | shimmer
deriving DecidableEq, Repr

/-- The contexts a sequencer's set can hold, by what its choice function calls them
(43_aggregator_and_sequencer.md R159, R160, R162; log 18). -/
inductive Role where
  | on | off
  | redLoud | redQuiet | amberLoud | amberQuiet | white
  | rainbow | sparkle | shimmer
deriving DecidableEq, Repr

/-- Which indicator a sequencer is: the five SimpleLEDs of 43_aggregator_and_sequencer.md R161 (`plain` has no
override of `is_on`) and the two MultiBlinkingLEDs of R164. -/
inductive Indicator where
  | acOn | heatedRearWindow | hazard | rearFogger | plain
  | boost | tachometer
deriving DecidableEq, Repr

/-- One sequencer (10_state.md R19) with its seed register (R16). `set` maps the roles of its fixed set
to context numbers; `cur` is null or the number of the current context, so that two references are equal
exactly when they name one context (R19; log 18). -/
structure Sequencer where
  indicator : Indicator
  set : List (Role × Nat)
  slot : Nat
  cur : Option Nat
  seed : Option Time
deriving DecidableEq, Repr

/-- A closed bus transaction: the address and the bytes (20_memory.md R42). -/
structure Transaction where
  addr : Nat
  bytes : List Byte
deriving DecidableEq, Repr

/-- Edge events (30_encoding.md R68). -/
inductive Edge where
  | none | toHigh | toLow
deriving DecidableEq, Repr

/-- The result of FR_RX (30_encoding.md R72). -/
inductive RxStatus where
  | ok | underrun | badStart | badCont
deriving DecidableEq, Repr

/-- What an operation puts on the result port (30_encoding.md R65, R66; log 17). -/
inductive Result where
  | nothing
  | bit (b : Bool)
  | decoded (vec : BitVec 10) (err : Bool)
  | rxStatus (r : RxStatus)
  | edge (e : Edge)
  | edges (e0 e1 e2 e3 : Edge)
  | hue (h : Byte)
  | level (v : Byte)
  | mode (m : EffectMode)
deriving DecidableEq, Repr

/-- The colour buffer CB, the one indexed memory the block reaches (20_memory.md R43): the written slots
in rising order, each with its triple; a slot not listed has no value (10_state.md R26; log 22). -/
abbrev Memory := List (Nat × Colour)

/-- The block and the spaces it reaches. -/
structure State where
  /-- The parameters, which no step changes (00_scope.md R7). -/
  params : Config.Params
  /-- FB (R10). -/
  fb : Frame
  /-- The model's own: free values drawn for FB so far (log 6). -/
  fbDraws : Nat
  /-- RX, oldest byte first (20_memory.md R41). -/
  rx : List Byte
  /-- The model's own: free values drawn for RX so far (log 5). -/
  rxDraws : Nat
  /-- TX, oldest closed transaction first (20_memory.md R42). -/
  tx : List Transaction
  /-- CB (20_memory.md R43). -/
  cb : Memory
  /-- DB[d] (R12, R13). -/
  db : List Debouncer
  /-- The model's own: whether DB[d] has had an operation other than DB_INIT (20_memory.md R51; log 12). -/
  dbUsed : List Bool
  /-- FX[e] (R14 to R17). -/
  fx : List Context
  /-- The model's own: whether FX[e] has had an operation other than FX_CONFIG (20_memory.md R51; log 12). -/
  fxUsed : List Bool
  /-- SNAP.ignition to SNAP.oil (R18); `none` is the spec's "no value" (R26; log 11). -/
  snapInputs : Option RawInputs
  /-- SNAP.frame (R18). -/
  snapFrame : Frame
  /-- MODE (R18). -/
  mode : EffectMode
  /-- PULSE_START (R18). -/
  pulseStart : Time
  /-- PULSE_ARMED (R18). -/
  pulseArmed : Bool
  /-- SQ[l] and SEED[l] (R16, R19); their number is LED_COUNT. -/
  sq : List Sequencer
  /-- FATAL (R24). -/
  fatal : Bool
  /-- The result port (30_encoding.md R65; log 17). -/
  result : Result
  /-- What the caller and the environment present next, in order (log 2). -/
  queue : List Input
deriving DecidableEq, Repr

/-- A register that holds no value yet (10_state.md R26). -/
inductive NoValue where
  /-- FX[e].tact before the first FX_ACTIVATE. -/
  | tact
  /-- SEED[s] before the first FX_SEED. -/
  | seed
  /-- FX[e].sp_t0 or sp_dark before the first activation of a Sparkle. -/
  | sparkle
  /-- SNAP.tachWarning, SNAP.tachCritical before the first AG_UPDATE. -/
  | snapInputs
deriving DecidableEq, Repr

/-- Why the machine stops with a fault. -/
inductive Fault where
  /-- An operation whose rule reads a register that holds "no value" (10_state.md R26: "a model faults on it";
  42_effect_engines.md R134: "a model faults rather than assume 0"; 93_implementation_defined.md item 4):
  raised by FX_EXPIRED, FX_TICK and SQ_TICK. Safe: the model stops where the spec gives no result. -/
  | noValue (reg : NoValue)
  /-- A step of a block whose FATAL bit is set (60_exceptions.md R186): raised by `fetch`. Safe: the spec
  lets the block perform no operation until reset. -/
  | fatal
deriving DecidableEq, Repr

/-- Why a command has no meaning. -/
inductive Refusal where
  /-- An instruction with no meaning yet; raised by `exec` alone. Safe. -/
  | notModelled (mnemonic : String)
  /-- A reserved command: the block changes no state, gives no result and signals `op_fault`
  (30_encoding.md R67, 60_exceptions.md R187; log 10); raised by `fetch` and by the operation that finds the
  cause. Safe: the model stops where the block would go on to the next command. -/
  | opFault (cause : Reserved)
deriving DecidableEq, Repr

/-! ### Reset (10_state.md R26, 70_reset_and_hazards.md R200) -/

/-- The default frame (R26). -/
def Frame.default : Frame := ⟨0x80, 0x00⟩

/-- A debouncer after construction with window `stableTime` (R26, 41_debouncer.md R100). -/
def Debouncer.constructed (stableTime : Time) : Debouncer := ⟨false, false, 0, stableTime⟩

/-- A context after construction: its timestamps hold no value (R26, 42_effect_engines.md R133). -/
def Context.constructed (config : Option FxConfig) : Context := ⟨config, none, none, none, 0⟩

namespace Reset

/-- The Shimmer parameters of LED `l` at reset: DESIGN CHOICE (log 16). -/
def shimmerOf (l : Nat) : ShimmerParams where
  px := l
  py := 2
  duration := 2000
  distanceFactor := 8
  speedFactor := mkRat 1 100
  initialOffset := 0
  slope := 0

/-- The three effect contexts every LED has (43_aggregator_and_sequencer.md R159). -/
def effectConfigs (ledCount l : Nat) : List FxConfig :=
  [.rainbow ledCount l, .sparkle, .shimmer (shimmerOf l)]

/-- The contexts of a SimpleLED: ON, OFF and the three effects (R160). -/
def simpleConfigs (ledCount l : Nat) (color : Colour) : List FxConfig :=
  [.solid color, .solid Colour.black] ++ effectConfigs ledCount l

/-- The contexts of a MultiBlinkingLED: RL, RQ, AL, AQ, W and the three effects (R162); red, amber and
white are DESIGN CHOICES (log 16). -/
def multiConfigs (ledCount l : Nat) : List FxConfig :=
  [.flash ⟨255, 0, 0⟩ true l, .flash Colour.black false l, .flash ⟨255, 191, 0⟩ true l,
   .flash Colour.black false l, .solid ⟨255, 255, 255⟩] ++ effectConfigs ledCount l

/-- A SimpleLED's set, its contexts numbered from `base`. -/
def simpleSet (base : Nat) : List (Role × Nat) :=
  [(.on, base), (.off, base + 1), (.rainbow, base + 2), (.sparkle, base + 3), (.shimmer, base + 4)]

/-- A MultiBlinkingLED's set, its contexts numbered from `base`. -/
def multiSet (base : Nat) : List (Role × Nat) :=
  [(.redLoud, base), (.redQuiet, base + 1), (.amberLoud, base + 2), (.amberQuiet, base + 3), (.white, base + 4),
   (.rainbow, base + 5), (.sparkle, base + 6), (.shimmer, base + 7)]

/-- The six indicators the spec names, LED `l` in slot `l`: DESIGN CHOICE (log 16). -/
def sequencers : List Sequencer :=
  [⟨.acOn, simpleSet 0, 0, none, none⟩, ⟨.heatedRearWindow, simpleSet 5, 1, none, none⟩,
   ⟨.hazard, simpleSet 10, 2, none, none⟩, ⟨.rearFogger, simpleSet 15, 3, none, none⟩,
   ⟨.boost, multiSet 20, 4, none, none⟩, ⟨.tachometer, multiSet 28, 5, none, none⟩]

/-- The configurations of the contexts of `sequencers`, in the order of their numbers (log 16). -/
def configs : List FxConfig :=
  simpleConfigs 6 0 ⟨0, 255, 0⟩ ++ simpleConfigs 6 1 ⟨255, 191, 0⟩ ++ simpleConfigs 6 2 ⟨255, 0, 0⟩
    ++ simpleConfigs 6 3 ⟨255, 191, 0⟩ ++ multiConfigs 6 4 ++ multiConfigs 6 5

end Reset

/-- The state right after reset: R26's values, the parameters and constructor arguments of log 15 and log
16, the collaborators' spaces empty, nothing presented. -/
def State.reset : State where
  params := Config.Params.atReset
  fb := Frame.default
  fbDraws := 0
  rx := []
  rxDraws := 0
  tx := []
  cb := []
  db := List.replicate 4 (Debouncer.constructed 50)
  dbUsed := List.replicate 4 false
  fx := Reset.configs.map fun c => Context.constructed (some c)
  fxUsed := List.replicate 36 false
  snapInputs := none
  snapFrame := Frame.default
  mode := .none
  pulseStart := 0
  pulseArmed := false
  sq := Reset.sequencers
  fatal := false
  result := .nothing
  queue := []

end Sys2Proof.Machine
end

