-- ==== Sys2Proof/Machine/Ops.lean ====
section
/-! DEFINITION. The named operations over the registers, the streams and the colour buffer, and what an error
does to the block. -/

namespace Sys2Proof.Machine

/-! ### How an operation stops -/

/-- An operation that does not answer: it faults, or it is refused. -/
inductive Stop where
  | fault (f : Fault)
  | refused (r : Refusal)
deriving DecidableEq, Repr

/-- The outcome of a step from an operation's answer. -/
def finish : Except Stop State → Host.Outcome State Fault Refusal
  | .ok s => .next s
  | .error (.fault f) => .fault f
  | .error (.refused r) => .refused r

/-- A reserved command: no state change, no result, `op_fault` to the caller (60_exceptions.md R187; log 10). -/
def opFault {α : Type} (cause : Reserved) : Except Stop α := .error (.refused (.opFault cause))

/-- A read of a register that holds "no value": the spec asks a model to fault (10_state.md R14, R26,
42_effect_engines.md R134, 93_implementation_defined.md item 4; log 11). -/
def noValue {α : Type} (reg : NoValue) : Except Stop α := .error (.fault (.noValue reg))

/-- The value of a register that may hold none yet. -/
def valueOf {α : Type} (reg : NoValue) : Option α → Except Stop α
  | some v => .ok v
  | none => noValue reg

/-! ### Register writes -/

/-- Put a result on the result port (30_encoding.md R65). -/
def State.ret (s : State) (r : Result) : State := { s with result := r }

/-- `FB <- f`. -/
def State.setFb (s : State) (f : Frame) : State := { s with fb := f }

/-- Leave `bytes` in RX. -/
def State.setRx (s : State) (bytes : List Byte) : State := { s with rx := bytes }

/-- Leave `ts` in TX. -/
def State.setTx (s : State) (ts : List Transaction) : State := { s with tx := ts }

/-- Leave `m` in CB. -/
def State.setCb (s : State) (m : Memory) : State := { s with cb := m }

/-- Write every register of DB[d]. -/
def State.setDb (s : State) (d : Nat) (x : Debouncer) : State := { s with db := s.db.set d x }

/-- DB[d] has had an operation other than DB_INIT (log 12). -/
def State.useDb (s : State) (d : Nat) : State := { s with dbUsed := s.dbUsed.set d true }

/-- Write every register of FX[e]. -/
def State.setFx (s : State) (e : Nat) (c : Context) : State := { s with fx := s.fx.set e c }

/-- FX[e] has had an operation other than FX_CONFIG (log 12). -/
def State.useFx (s : State) (e : Nat) : State := { s with fxUsed := s.fxUsed.set e true }

/-- Write SQ[l] and SEED[l]. -/
def State.setSq (s : State) (l : Nat) (q : Sequencer) : State := { s with sq := s.sq.set l q }

/-- Write SNAP.ignition to SNAP.oil. -/
def State.setInputs (s : State) (i : RawInputs) : State := { s with snapInputs := some i }

/-- `SNAP.frame <- f`. -/
def State.setSnapFrame (s : State) (f : Frame) : State := { s with snapFrame := f }

/-- `MODE <- m`. -/
def State.setMode (s : State) (m : EffectMode) : State := { s with mode := m }

/-- `PULSE_START <- now; PULSE_ARMED <- 1` (43_aggregator_and_sequencer.md R154). -/
def State.armPulse (s : State) (now : Time) : State := { s with pulseStart := now, pulseArmed := true }

/-- Leave `q` to be presented. -/
def State.setQueue (s : State) (q : List Input) : State := { s with queue := q }

/-- LED_COUNT: one sequencer and one colour-buffer slot per LED (10_state.md R25, 20_memory.md R40). -/
def State.ledCount (s : State) : Nat := s.sq.length

/-! ### Time -/

/-- `tsub(a, b) = (a - b) mod 2^TW` (00_scope.md R5). -/
abbrev tsub (a b : Time) : Time := a - b

/-! ### The colour buffer (20_memory.md R43) -/

/-- The triple in a slot; a slot not listed has no value (10_state.md R26; log 22). -/
def Memory.read : Memory → Nat → Option Colour
  | [], _ => none
  | (k, c) :: m, slot => if slot = k then some c else Memory.read m slot

/-- `CB[slot] <- c`, keeping the slots in rising order. -/
def Memory.write : Memory → Nat → Colour → Memory
  | [], slot, c => [(slot, c)]
  | (k, c') :: m, slot, c =>
    if slot < k then (slot, c) :: (k, c') :: m
    else if slot = k then (slot, c) :: m
    else (k, c') :: Memory.write m slot c

/-- Every listed slot is above `lo`, and the slots strictly rise. -/
def Memory.risingFrom (lo : Nat) : Memory → Bool
  | [] => true
  | (k, _) :: m => decide (lo ≤ k) && Memory.risingFrom (k + 1) m

/-- The canonical form: the listed slots strictly rise, so equal buffers are equal data. -/
def Memory.wf (m : Memory) : Bool := m.risingFrom 0

/-! ### The streams (20_memory.md R41, R42) -/

/-- `RxAvail()`: how many bytes wait in RX (R41). -/
def State.rxAvail (s : State) : Nat := s.rx.length

/-- The environment appends bytes to RX (R52). Past the capacity RX_DEPTH the bus drops or refuses bytes in a
way the spec does not give, so RX then holds a free value of at most RX_DEPTH bytes (93_implementation_defined.md
item 9; log 5). -/
def State.rxArrive (s : State) (bytes : List Byte) : State :=
  if s.rx.length + bytes.length ≤ s.params.rxDepth then s.setRx (s.rx ++ bytes)
  else { s with rx := (Config.overflowStream s.rxDraws).take s.params.rxDepth, rxDraws := s.rxDraws + 1 }

/-- `BusBegin(addr)`: open a transaction (R42). -/
def busBegin (addr : Nat) : Transaction := ⟨addr, []⟩

/-- `BusWrite(b)`: append a byte to the open transaction (R42). -/
def busWrite (t : Transaction) (b : Byte) : Transaction := { t with bytes := t.bytes ++ [b] }

/-- `BusEnd()`: close the transaction and hand it to the bus, whose result is ignored (R42). -/
def State.busEnd (s : State) (t : Transaction) : State := s.setTx (s.tx ++ [t])

/-! ### Errors (60_exceptions.md) -/

/-- The frame buffer with FB[0][7] clear and the fifteen other bits as drawn (40_framer.md R89; log 6). -/
def erroredFrame (draw : BitVec 15) : Frame :=
  ⟨(draw.extractLsb' 8 7).setWidth 8, draw.extractLsb' 0 8⟩

/-- A FrameSyncError, "mark errored": FB[0][7] is cleared, the other bits of FB are free, nothing else
changes (40_framer.md R88, R89; 60_exceptions.md R181, R183). -/
def State.markErrored (s : State) : State :=
  { s with fb := erroredFrame (Config.unreliableFrame s.fbDraws), fbDraws := s.fbDraws + 1 }

/-- `fault(InvariantViolation)`: the sticky bit FATAL is set, nothing else changes (60_exceptions.md R186; log 13). -/
def State.raiseFatal (s : State) : State := { s with fatal := true }

/-- A debouncer at reset: R26's values, its window as constructed. -/
def Debouncer.atReset (x : Debouncer) : Debouncer := Debouncer.constructed x.tstable

/-- A context at reset: its configuration as constructed, no timestamps. -/
def Context.atReset (c : Context) : Context := { c with tact := none, spT0 := none, spDark := none }

/-- A sequencer at reset: null, no seed, its configuration as constructed. -/
def Sequencer.atReset (q : Sequencer) : Sequencer := { q with cur := none, seed := none }

/-- Power-on reset, the only way out of FATAL: every register takes R26's value, the configuration registers
keep their constructor arguments, RX, TX, CB are not touched (70_reset_and_hazards.md R200, 10_state.md
R24, R27; log 14). -/
def State.powerOn (s : State) : State :=
  { s with
    fb := Frame.default
    db := s.db.map Debouncer.atReset
    dbUsed := s.dbUsed.map fun _ => false
    fx := s.fx.map Context.atReset
    fxUsed := s.fxUsed.map fun _ => false
    snapInputs := none
    snapFrame := Frame.default
    mode := .none
    pulseStart := 0
    pulseArmed := false
    sq := s.sq.map Sequencer.atReset
    fatal := false
    result := .nothing }

end Sys2Proof.Machine
end

