-- ==== Sys2Proof/Machine/Operands.lean ====
section
/-! DEFINITION. Operand forms: the signals of a frame, the ten-bit vector, and the numbered instances of a bank. -/

namespace Sys2Proof.Machine

/-! ### Signals (30_encoding.md R60 to R63) -/

/-- FB[j]: byte 0, or byte 1. -/
def Frame.byte (f : Frame) (j : Nat) : Byte := if j = 0 then f.b0 else f.b1

/-- `byte(k) = k / 7` (R61). -/
def signalByte (k : Nat) : Nat := k / Config.payloadBits

/-- `bit(k) = k % 7` (R61). -/
def signalBit (k : Nat) : Nat := k % Config.payloadBits

/-- Signal `k` of a frame: `FB[k / 7][k % 7]` (40_framer.md R84). -/
def Frame.signal (f : Frame) (k : Nat) : Bool := (f.byte (signalByte k)).getLsbD (signalBit k)

/-- A byte with bit `i` replaced. -/
def setBit (b : Byte) (i : Nat) (v : Bool) : Byte :=
  if v then b ||| (1#8 <<< i) else b &&& ~~~(1#8 <<< i)

/-- `FB[k / 7][k % 7] <- v`, every other bit kept (40_framer.md R83). -/
def Frame.setSignal (f : Frame) (k : Nat) (v : Bool) : Frame :=
  if signalByte k = 0 then { f with b0 := setBit f.b0 (signalBit k) v }
  else { f with b1 := setBit f.b1 (signalBit k) v }

/-- The ten signals as a vector: `{FB[1][2:0], FB[0][6:0]}` (R61). -/
def Frame.signals (f : Frame) : BitVec 10 := signalsOf f.b0 f.b1

/-- The frame of a signal vector: markers 1 and 0, spare bits 0 (40_framer.md R86). -/
def Frame.ofSignals (vec : BitVec 10) : Frame := ⟨frameByte0 vec, frameByte1 vec 0⟩

/-- Two bytes with the markers forced, the payload and spare bits as given (40_framer.md R81). -/
def Frame.sanitized (in0 in1 : Byte) : Frame := ⟨in0 ||| 0x80, in1 &&& 0x7F⟩

/-- A signal index operand: 10 to 15 are reserved (30_encoding.md R67). -/
def signalOperand (k : BitVec 4) : Except Stop Nat :=
  if k.toNat < Config.numSignals then .ok k.toNat else opFault .signalIndex

/-! ### Instances (10_state.md R25, 30_encoding.md R67) -/

/-- DB[d], or the refusal of a number outside the bank. -/
def State.debouncer (s : State) (d : Nat) : Except Stop Debouncer :=
  match s.db[d]? with
  | some x => .ok x
  | none => opFault .noSuchDebouncer

/-- FX[e], configured or not, or the refusal of a number outside the bank. -/
def State.context (s : State) (e : Nat) : Except Stop Context :=
  match s.fx[e]? with
  | some c => .ok c
  | none => opFault .noSuchContext

/-- FX[e] with its configuration, or the refusal of a context never configured. -/
def State.configured (s : State) (e : Nat) : Except Stop (Context × FxConfig) :=
  match s.fx[e]? with
  | some c =>
    match c.config with
    | some k => .ok (c, k)
    | none => opFault .unconfigured
  | none => opFault .noSuchContext

/-- SQ[l], or the refusal of a number outside the bank. -/
def State.sequencer (s : State) (l : Nat) : Except Stop Sequencer :=
  match s.sq[l]? with
  | some q => .ok q
  | none => opFault .noSuchSequencer

/-- SEED[n] as it stands, or the refusal of a number outside the bank (one seed per sequencer, R16). -/
def State.seedRegister (s : State) (n : Nat) : Except Stop (Option Time) :=
  match s.sq[n]? with
  | some q => .ok q.seed
  | none => opFault .noSuchSeed

/-- Whether DB[d] has had an operation other than DB_INIT (20_memory.md R51; log 12). -/
def State.dbInUse (s : State) (d : Nat) : Bool := s.dbUsed.getD d false

/-- Whether FX[e] has had an operation other than FX_CONFIG (20_memory.md R51; log 12). -/
def State.fxInUse (s : State) (e : Nat) : Bool := s.fxUsed.getD e false

/-- A colour-buffer slot operand: `slot < LED_COUNT` (30_encoding.md R67). -/
def State.slotOperand (s : State) (slot : Nat) : Except Stop Unit :=
  if slot < s.ledCount then .ok () else opFault .slotOutOfRange

/-- An analog level operand: 0 to 1023 (43_aggregator_and_sequencer.md R151). -/
def analogOperand (level : BitVec 16) : Except Stop Unit :=
  if level.toNat ≤ Config.analogMax then .ok () else opFault .analogRange

/-- A configuration operand of FX_CONFIG: R133's constraints, and a Flash names an existing seed. -/
def State.configOk (s : State) (c : FxConfig) : Bool :=
  c.legal &&
    match c with
    | .flash _ _ seedId => decide (seedId < s.sq.length)
    | .solid _ | .timedSolid _ _ | .rainbow _ _ | .sparkle | .shimmer _ => true

/-- The number of the context a sequencer's set holds for a role. -/
def Sequencer.context (q : Sequencer) (r : Role) : Option Nat := q.set.lookup r

end Sys2Proof.Machine
end

