-- ==== Sys2Proof/Machine/Flags.lean ====
section
/-! DEFINITION. The status the block computes afresh (10_state.md R20): `is_error`, edges, phases, expiry
comparisons, the pulse window; and the numeric codes of the enumerations. -/

namespace Sys2Proof.Machine

/-- `is_error()`: `!FB[0][7]`, whatever FB[1] holds (40_framer.md R85). -/
def Frame.isError (f : Frame) : Bool := !marker f.b0

/-- A frame whose start marker is 1 and whose continuation marker is 0 (10_state.md R11). -/
def Frame.wellFormed (f : Frame) : Bool := marker f.b0 && !marker f.b1

/-- The edge to a new stable value (41_debouncer.md R101 step 2). -/
def edgeTo (reading : Bool) : Edge := if reading then .toHigh else .toLow

/-- `first_half(now, seed)`: the loud half of the square wave of period 2 × FLASH_DURATION
(42_effect_engines.md R121). -/
def firstHalf (flashDuration : Nat) (now seed : Time) : Bool :=
  decide ((tsub now seed).toNat % (2 * flashDuration) < flashDuration)

/-- At least `limit` ms have passed since `start` (41_debouncer.md R101, 42_effect_engines.md R120). -/
def elapsed (now start limit : Time) : Bool := decide (limit ≤ tsub now start)

/-- `now` lies in `[start, start + width)` (43_aggregator_and_sequencer.md R155). -/
def within (now start : Time) (width : Nat) : Bool := decide ((tsub now start).toNat < width)

/-- The next EffectMode: `(MODE + 1) % 4` (30_encoding.md R69). -/
def EffectMode.succ : EffectMode → EffectMode
  | .none => .rainbow
  | .rainbow => .sparkle
  | .sparkle => .shimmer
  | .shimmer => .none

/-- The code of an EffectMode (30_encoding.md R69). -/
def EffectMode.code : EffectMode → BitVec 2
  | .none => 0
  | .rainbow => 1
  | .sparkle => 2
  | .shimmer => 3

/-- The code of an edge event (30_encoding.md R68). -/
def Edge.code : Edge → BitVec 2
  | .none => 0
  | .toHigh => 1
  | .toLow => 2

/-- The code of an rx_status (30_encoding.md R72). -/
def RxStatus.code : RxStatus → BitVec 2
  | .ok => 0
  | .underrun => 1
  | .badStart => 2
  | .badCont => 3

/-- Context `e` is the one the sequencer's set holds for a role. -/
def Sequencer.names (q : Sequencer) (r : Role) (e : Nat) : Bool := q.context r == some e

/-- The current context is the one of a role: references are compared by the context they name (10_state.md R19). -/
def Sequencer.isAt (q : Sequencer) (r : Role) : Bool := q.cur.any (q.names r)

/-- Context `e` is loud: RL or AL (43_aggregator_and_sequencer.md R163). -/
def Sequencer.isLoud (q : Sequencer) (e : Nat) : Bool := q.names .redLoud e || q.names .amberLoud e

/-- Context `e` is one of the four Flash contexts RL, RQ, AL, AQ (R163). -/
def Sequencer.isBlink (q : Sequencer) (e : Nat) : Bool :=
  q.isLoud e || q.names .redQuiet e || q.names .amberQuiet e

end Sys2Proof.Machine
end

