-- ==== Sys2Proof/Machine/Debouncer.lean ====
section
/-! DEFINITION. The debouncer's operations (41_debouncer.md R100 to R103). -/

namespace Sys2Proof.Machine

/-- Step 1 of R101: the time of the last change of the raw reading, this reading included. -/
def Debouncer.changedAt (x : Debouncer) (now : Time) (reading : Bool) : Time :=
  if reading != x.prev then now else x.tchg

/-- Step 2's test of R101: the reading has persisted for the window and differs from the stable value. -/
def Debouncer.accepts (x : Debouncer) (now : Time) (reading : Bool) : Bool :=
  elapsed now (x.changedAt now reading) x.tstable && reading != x.stable

/-- `process(now, reading)` on the registers of one debouncer (R101). -/
def Debouncer.process (x : Debouncer) (now : Time) (reading : Bool) : Debouncer × Edge :=
  if x.accepts now reading then
    (⟨reading, reading, x.changedAt now reading, x.tstable⟩, edgeTo reading)
  else
    (⟨x.stable, reading, x.changedAt now reading, x.tstable⟩, .none)

/-- `process` of DB[d] (R101). -/
def dbProcess (d : Nat) (now : Time) (reading : Bool) (s : State) : Except Stop (State × Edge) := do
  let x ← s.debouncer d
  return ((s.setDb d (x.process now reading).1).useDb d, (x.process now reading).2)

/-- DB_INIT: construction, refused after the instance's first other operation (R100, 20_memory.md R51). -/
def execDbInit (d : Nat) (stableTime : Time) (s : State) : Host.Outcome State Fault Refusal :=
  finish do
    let _ ← s.debouncer d
    if s.dbInUse d then opFault .reconfiguration
    else return (s.setDb d (Debouncer.constructed stableTime)).ret .nothing

/-- DB_PROCESS (R101). -/
def execDbProcess (d : Nat) (now : Time) (reading : Bool) (s : State) : Host.Outcome State Fault Refusal :=
  finish do
    let (s', edge) ← dbProcess d now reading s
    return s'.ret (.edge edge)

/-- DB_FORCE: the stable value alone, no edge (R102). -/
def execDbForce (d : Nat) (value : Bool) (s : State) : Host.Outcome State Fault Refusal :=
  finish do
    let x ← s.debouncer d
    return ((s.setDb d { x with stable := value }).useDb d).ret .nothing

/-- DB_STABLE: the stable value (R103). -/
def execDbStable (d : Nat) (s : State) : Host.Outcome State Fault Refusal :=
  finish do
    let x ← s.debouncer d
    return (s.useDb d).ret (.bit x.stable)

end Sys2Proof.Machine
end

