-- ==== Sys2Proof/Machine/Aggregator.lean ====
section
/-! DEFINITION. The aggregator, SignalSnapshot (43_aggregator_and_sequencer.md R151 to R157). -/

namespace Sys2Proof.Machine

/-- Attach the frame: SNAP.frame takes FB unless FB is errored (R152). -/
def State.attachFrame (s : State) : State := if s.fb.isError then s else s.setSnapFrame s.fb

/-- Debounce scroll signal `i`: signal `6 + i` of SNAP.frame goes to DB[i] (R153). -/
def debounceScroll (i : Nat) (now : Time) (s : State) : Except Stop (State × Edge) :=
  dbProcess i now (s.snapFrame.signal (6 + i)) s

/-- Record the CAN pulse at a ToHigh edge of CAN-scroll (R154). -/
def State.recordPulse (s : State) (now : Time) (e : Edge) : State :=
  if e = .toHigh then s.armPulse now else s

/-- Advance the EffectMode at a ToHigh edge of effect-scroll (R156). -/
def State.advanceMode (s : State) (e : Edge) : State :=
  if e = .toHigh then s.setMode s.mode.succ else s

/-- AG_UPDATE: the inputs, the frame, the four debouncers, the pulse and the mode, in that order (R151). -/
def execAgUpdate (now : Time) (ignition backlightDim tachWarning tachCritical : Bool)
    (fuel temperature oil : BitVec 16) (s : State) : Host.Outcome State Fault Refusal :=
  finish do
    analogOperand fuel
    analogOperand temperature
    analogOperand oil
    let s0 := (s.setInputs ⟨ignition, backlightDim, tachWarning, tachCritical, fuel, temperature, oil⟩).attachFrame
    let (s1, e0) ← debounceScroll 0 now s0
    let (s2, e1) ← debounceScroll 1 now s1
    let (s3, e2) ← debounceScroll 2 now s2
    let (s4, e3) ← debounceScroll 3 now s3
    return ((s4.recordPulse now e0).advanceMode e2).ret (.edges e0 e1 e2 e3)

/-- AG_PULSE_Q: `now` lies in the armed pulse's window (R155). -/
def execAgPulseQ (now : Time) (s : State) : Host.Outcome State Fault Refusal :=
  .next (s.ret (.bit (s.pulseArmed && within now s.pulseStart s.params.canPulseWidth)))

/-- AG_MODE: the current EffectMode (R157). -/
def execAgMode (s : State) : Host.Outcome State Fault Refusal :=
  .next (s.ret (.mode s.mode))

end Sys2Proof.Machine
end

