-- ==== Sys2Proof/Machine/Effects.lean ====
section
/-! DEFINITION. The LED effect engines (42_effect_engines.md R115 to R134). -/

namespace Sys2Proof.Machine

/-! ### Closed-form functions of time -/

/-- The part of the hue that turns with time: `((now % RAINBOW_PERIOD) × 256) / RAINBOW_PERIOD` (R125). -/
def hueBase (period : Nat) (now : Time) : Nat := (now.toNat % period * 256) / period

/-- The part of the hue an LED's index adds: `(index × 256) / led_count` (R125). -/
def hueOffset (index ledCount : Nat) : Nat := (index * 256) / ledCount

/-- `hue(now, index, led_count)` for `index < led_count`; another index is out of range and reserved (R125,
92_eei_decisions.md D8; log 8). -/
def hueOf (period : Nat) (now : Time) (index ledCount : Nat) : Except Stop Byte :=
  if index < ledCount then .ok (BitVec.ofNat 8 ((hueBase period now + hueOffset index ledCount) % 256))
  else opFault .hueIndex

/-- `clamp(lo, hi, q)` (00_scope.md R8). -/
def clampRat (lo hi q : Rat) : Rat := if q < lo then lo else if hi < q then hi else q

/-- The intercept of the sweeping line at `t` (R129). -/
def shimmerIntercept (p : ShimmerParams) (t : Nat) : Rat := p.initialOffset + p.speedFactor * (t : Rat)

/-- The squared distance of the LED from the line at `t` (R129). -/
def shimmerDist2 (p : ShimmerParams) (t : Nat) : Rat :=
  (p.slope * p.px - p.py + shimmerIntercept p t) * (p.slope * p.px - p.py + shimmerIntercept p t)
    / (p.slope * p.slope + 1)

/-- The brightness before clamping and rounding (R129). -/
def shimmerRaw (p : ShimmerParams) (t : Nat) : Rat :=
  255 - (p.distanceFactor * p.distanceFactor) * shimmerDist2 p t

/-- The brightness at `t`: `floor(clamp(0, 255, q))` (R129). -/
def shimmerLevel (p : ShimmerParams) (t : Nat) : Byte :=
  BitVec.ofNat 8 (clampRat 0 255 (shimmerRaw p t)).floor.toNat

/-- The level of a context at `t`: R129 for a Shimmer and `t < duration`; another kind and another time are
out of range and reserved (R129, 92_eei_decisions.md D8; log 9). -/
def levelOf (c : FxConfig) (t : Nat) : Except Stop Byte :=
  match c with
  | .shimmer p => if t < p.duration then .ok (shimmerLevel p t) else opFault .shimmerTime
  | .solid _ | .timedSolid _ _ | .flash _ _ _ | .rainbow _ _ | .sparkle => opFault .notShimmer

/-! ### Sparkle (R127, R128) -/

/-- `draw(0, 5 × FLASH_DURATION)`: the free value brought into its range (R127; log 7). -/
def drawDark (flashDuration e n : Nat) : Time :=
  BitVec.ofNat 32 (Config.sparkleRoll e n % (Config.sparkleMaxDark flashDuration + 1))

/-- Start a dark-then-bright cycle at `now` with a fresh dark interval (R127). -/
def Context.roll (c : Context) (flashDuration e : Nat) (now : Time) : Context :=
  { c with spT0 := some now, spDark := some (drawDark flashDuration e c.rolls), rolls := c.rolls + 1 }

/-- A Sparkle's tick: the context after it and the colour it writes (R128). The end of the pulse is compared
on exact integers (log 19). -/
def sparkleTick (p : Config.Params) (e : Nat) (c : Context) (now t0 dark : Time) : Context × Colour :=
  if (tsub now t0).toNat < dark.toNat then (c, p.sparkleDarkColor)
  else if (tsub now t0).toNat < dark.toNat + p.sparklePulseWidth then (c, p.sparkleColor)
  else (c.roll p.flashDuration e now, p.sparkleDarkColor)

/-! ### The shared contract (R115 to R118) -/

/-- `CB[slot] <- c` (20_memory.md R43). -/
def State.paint (s : State) (slot : Nat) (c : Colour) : State := s.setCb (s.cb.write slot c)

/-- The context a kind's `activate` leaves: the activation time, then the hook of the kind (R116, R127). -/
def Context.activate (c : Context) (k : FxConfig) (flashDuration e : Nat) (now : Time) : Context :=
  match k with
  | .sparkle => { c with tact := some now }.roll flashDuration e now
  | .solid _ | .timedSolid _ _ | .flash _ _ _ | .rainbow _ _ | .shimmer _ => { c with tact := some now }

/-- `activate(now)` of FX[e] (R116). -/
def fxActivate (e : Nat) (now : Time) (s : State) : Except Stop State := do
  let (c, k) ← s.configured e
  return (s.setFx e (c.activate k s.params.flashDuration e now)).useFx e

/-- The context after a tick of kind `k` at `now`, and the colour it writes (R117; R119, R120, R123, R126,
R128, R130). -/
def tickOf (p : Config.Params) (e : Nat) (c : Context) (k : FxConfig) (now : Time) :
    Except Stop (Context × Colour) :=
  match k with
  | .solid color => .ok (c, color)
  | .timedSolid color _ => .ok (c, color)
  | .flash color _ _ => .ok (c, color)
  | .rainbow ledCount index => do
    let hue ← hueOf p.rainbowPeriod now index ledCount
    return (c, Config.hsv2rgb hue 255 255)
  | .sparkle => do
    let t0 ← valueOf .sparkle c.spT0
    let dark ← valueOf .sparkle c.spDark
    return sparkleTick p e c now t0 dark
  | .shimmer q => do
    let tact ← valueOf .tact c.tact
    let level ← levelOf k ((tsub now tact).toNat % q.duration)
    return (c, ⟨level, level, level⟩)

/-- `tick(slot, now)` of FX[e]: exactly one slot is written (R117). -/
def fxTick (e slot : Nat) (now : Time) (s : State) : Except Stop State := do
  s.slotOperand slot
  let (c, k) ← s.configured e
  let (c', color) ← tickOf s.params e c k now
  return ((s.setFx e c').paint slot color).useFx e

/-- `is_expired(now)` of a context of kind `k` (R118; the last column of R115's table). -/
def expiredOf (s : State) (c : Context) (k : FxConfig) (now : Time) : Except Stop Bool :=
  match k with
  | .solid _ => .ok true
  | .timedSolid _ lifetime => do
    let tact ← valueOf .tact c.tact
    return elapsed now tact lifetime
  | .flash _ activeHalf seedId => do
    let register ← s.seedRegister seedId
    let seed ← valueOf .seed register
    return activeHalf ^^ firstHalf s.params.flashDuration now seed
  | .rainbow _ _ => .ok true
  | .sparkle => .ok true
  | .shimmer _ => .ok true

/-- `is_expired(now)` of FX[e] (R118). -/
def fxExpired (e : Nat) (now : Time) (s : State) : Except Stop Bool := do
  let (c, k) ← s.configured e
  expiredOf s c k now

/-- `SEED[n] <- now` (R124). -/
def fxSeed (n : Nat) (now : Time) (s : State) : Except Stop State :=
  match s.sq[n]? with
  | some q => .ok (s.setSq n { q with seed := some now })
  | none => opFault .noSuchSeed

/-! ### The operations -/

/-- FX_CONFIG: construction, refused after the context's first other operation and for a configuration that
breaks R133 (R133, 20_memory.md R51). -/
def execFxConfig (e : Nat) (config : FxConfig) (s : State) : Host.Outcome State Fault Refusal :=
  finish do
    let c ← s.context e
    if s.fxInUse e then opFault .reconfiguration
    else if s.configOk config then
      return (s.setFx e { Context.constructed (some config) with rolls := c.rolls }).ret .nothing
    else opFault .badConfiguration

/-- FX_ACTIVATE (R116). -/
def execFxActivate (e : Nat) (now : Time) (s : State) : Host.Outcome State Fault Refusal :=
  finish do
    let s' ← fxActivate e now s
    return s'.ret .nothing

/-- FX_TICK (R117). -/
def execFxTick (e slot : Nat) (now : Time) (s : State) : Host.Outcome State Fault Refusal :=
  finish do
    let s' ← fxTick e slot now s
    return s'.ret .nothing

/-- FX_EXPIRED (R118). -/
def execFxExpired (e : Nat) (now : Time) (s : State) : Host.Outcome State Fault Refusal :=
  finish do
    let expired ← fxExpired e now s
    return (s.useFx e).ret (.bit expired)

/-- FX_SEED (R124). -/
def execFxSeed (seed : Nat) (now : Time) (s : State) : Host.Outcome State Fault Refusal :=
  finish do
    let s' ← fxSeed seed now s
    return s'.ret .nothing

/-- FX_FLASH_PHASE (R121). -/
def execFxFlashPhase (now seed : Time) (s : State) : Host.Outcome State Fault Refusal :=
  .next (s.ret (.bit (firstHalf s.params.flashDuration now seed)))

/-- FX_HUE (R125). -/
def execFxHue (now : Time) (index ledCount : Nat) (s : State) : Host.Outcome State Fault Refusal :=
  finish do
    let hue ← hueOf s.params.rainbowPeriod now index ledCount
    return s.ret (.hue hue)

/-- FX_SHIMMER_LEVEL (R129). -/
def execFxShimmerLevel (e : Nat) (t : Time) (s : State) : Host.Outcome State Fault Refusal :=
  finish do
    let (_, k) ← s.configured e
    let level ← levelOf k t.toNat
    return (s.useFx e).ret (.level level)

end Sys2Proof.Machine
end

