-- ==== Sys2Proof/Machine/Framer.lean ====
section
/-! DEFINITION. The framer's operations (40_framer.md R80 to R90). -/

namespace Sys2Proof.Machine

/-- FR_CLEAR: `FB <- {0x80, 0x00}` (R80). -/
def execFrClear (s : State) : Host.Outcome State Fault Refusal :=
  .next ((s.setFb Frame.default).ret .nothing)

/-- FR_LOAD: both bytes with the markers forced (R81). -/
def execFrLoad (in0 in1 : Byte) (s : State) : Host.Outcome State Fault Refusal :=
  .next ((s.setFb (Frame.sanitized in0 in1)).ret .nothing)

/-- FR_LOAD_RAW: both bytes as given (R82). -/
def execFrLoadRaw (in0 in1 : Byte) (s : State) : Host.Outcome State Fault Refusal :=
  .next ((s.setFb ⟨in0, in1⟩).ret .nothing)

/-- FR_SET_BIT: one signal bit (R83). -/
def execFrSetBit (k : BitVec 4) (v : Bool) (s : State) : Host.Outcome State Fault Refusal :=
  finish do
    let k ← signalOperand k
    return (s.setFb (s.fb.setSignal k v)).ret .nothing

/-- FR_GET_BIT: the stored bit, errored frame or not (R84). -/
def execFrGetBit (k : BitVec 4) (s : State) : Host.Outcome State Fault Refusal :=
  finish do
    let k ← signalOperand k
    return s.ret (.bit (s.fb.signal k))

/-- FR_IS_ERROR: `!FB[0][7]` (R85). -/
def execFrIsError (s : State) : Host.Outcome State Fault Refusal :=
  .next (s.ret (.bit s.fb.isError))

/-- FR_ENCODE: the frame of a signal vector (R86). -/
def execFrEncode (vec : BitVec 10) (s : State) : Host.Outcome State Fault Refusal :=
  .next ((s.setFb (Frame.ofSignals vec)).ret .nothing)

/-- FR_DECODE: the signal vector and the error indication (R87). -/
def execFrDecode (s : State) : Host.Outcome State Fault Refusal :=
  .next (s.ret (.decoded s.fb.signals s.fb.isError))

/-- FR_RX's steps (R88): with fewer than two bytes waiting nothing is popped; a byte that fails its marker
check is popped and the bytes behind it are not; two good bytes become FB. -/
def receive (s : State) : State × RxStatus :=
  match s.rx with
  | b0 :: b1 :: rest =>
    if marker b0 = false then ((s.setRx (b1 :: rest)).markErrored, .badStart)
    else if marker b1 = true then ((s.setRx rest).markErrored, .badCont)
    else ((s.setRx rest).setFb ⟨b0, b1⟩, .ok)
  | [_] | [] => (s.markErrored, .underrun)

/-- FR_RX (R88, R89). -/
def execFrRx (s : State) : Host.Outcome State Fault Refusal :=
  .next ((receive s).1.ret (.rxStatus (receive s).2))

/-- FR_TX: both bytes raw, byte 0 first, in one transaction to the slave's address (R90). -/
def execFrTx (s : State) : Host.Outcome State Fault Refusal :=
  .next ((s.busEnd (busWrite (busWrite (busBegin Config.slaveAddr) s.fb.b0) s.fb.b1)).ret .nothing)

end Sys2Proof.Machine
end

