-- ==== Sys2Proof/Machine/Sequencer.lean ====
section
/-! DEFINITION. The sequencers, StatefulLED (43_aggregator_and_sequencer.md R158 to R167). -/

namespace Sys2Proof.Machine

/-- `sig(k)`: bit `k` of SNAP.frame (R161). -/
def State.sig (s : State) (k : Nat) : Bool := s.snapFrame.signal k

/-- `is_on(snapshot)` of a SimpleLED; a MultiBlinkingLED has none and takes the default, true (R160, R161). -/
def isOn (s : State) : Indicator → Bool
  | .acOn => s.sig 2
  | .heatedRearWindow => s.sig 3
  | .hazard => !s.sig 4
  | .rearFogger => s.sig 5
  | .plain => true
  | .boost => true
  | .tachometer => true

/-- Whether a sequencer is a MultiBlinkingLED (R164). -/
def Indicator.isMulti : Indicator → Bool
  | .boost | .tachometer => true
  | .acOn | .heatedRearWindow | .hazard | .rearFogger | .plain => false

/-- `is_critical` and `is_warning` of a MultiBlinkingLED: the boost indicator reads the wire signals, the
tachometer indicator the direct inputs (R164). A SimpleLED has neither. -/
def alarms (s : State) : Indicator → Except Stop (Bool × Bool)
  | .boost => .ok (s.sig 1, s.sig 0)
  | .tachometer => do
    let i ← valueOf .snapInputs s.snapInputs
    return (i.tachCritical, i.tachWarning)
  | .acOn | .heatedRearWindow | .hazard | .rearFogger | .plain => .ok (false, false)

/-- The local choice of a MultiBlinkingLED: its own colour's quiet context after a loud one, else critical before
warning before white (R162). -/
def chooseMulti (s : State) (q : Sequencer) : Except Stop Role :=
  if q.isAt .redLoud then .ok .redQuiet
  else if q.isAt .amberLoud then .ok .amberQuiet
  else do
    let (critical, warning) ← alarms s q.indicator
    return if critical then .redLoud else if warning then .amberLoud else .white

/-- `choose_next_local_state` (R160, R162). -/
def chooseLocal (s : State) (q : Sequencer) : Except Stop Role :=
  if q.indicator.isMulti then chooseMulti s q
  else .ok (if isOn s q.indicator then .on else .off)

/-- `choose_next_state`: the effect override first, else the local choice (R159). -/
def chooseNext (s : State) (q : Sequencer) : Except Stop Role :=
  match s.mode with
  | .rainbow => .ok .rainbow
  | .sparkle => .ok .sparkle
  | .shimmer => .ok .shimmer
  | .none => chooseLocal s q

/-- A transition of a MultiBlinkingLED into blinking from a non-blink state, at which the seed is re-armed: `nxt`
is loud and the current context is none of the four Flash contexts (R163; a SimpleLED has none, R160). -/
def Sequencer.rearms (q : Sequencer) (nxt : Nat) : Bool :=
  q.indicator.isMulti && q.isLoud nxt && !q.cur.any q.isBlink

/-- Make context `nxt` current in SQ[l]: the seed where it applies, activation, the reference (R158 step 1, R163). -/
def enter (l : Nat) (q : Sequencer) (nxt : Nat) (now : Time) (s : State) : Except Stop State := do
  let s1 ← if q.rearms nxt then fxSeed l now s else .ok s
  let s2 ← fxActivate nxt now s1
  let q2 ← s2.sequencer l
  return s2.setSq l { q2 with cur := some nxt }

/-- Step 2 of R158: the current context's tick into the sequencer's own slot. -/
def tickCurrent (e slot : Nat) (now : Time) (s : State) : Except Stop State := do
  let s' ← fxTick e slot now s
  return s'.ret .nothing

/-- Step 1 of R158 for a sequencer that may choose, then step 2: a choice outside the set is an
InvariantViolation (60_exceptions.md R186), the current context chosen again is not re-activated. -/
def chooseAndTick (l : Nat) (q : Sequencer) (now : Time) (s : State) : Except Stop State := do
  let role ← chooseNext s q
  match q.context role with
  | none => return s.raiseFatal
  | some e =>
    let s' ← if q.cur = some e then .ok s else enter l q e now s
    tickCurrent e q.slot now s'

/-- SQ_TICK's steps: choose when null or expired, then tick the current context (R158). -/
def sqTick (l : Nat) (now : Time) (s : State) : Except Stop State := do
  let q ← s.sequencer l
  match q.cur with
  | none => chooseAndTick l q now s
  | some e =>
    let expired ← fxExpired e now s
    if expired then chooseAndTick l q now s else tickCurrent e q.slot now s

/-- SQ_TICK (R158). -/
def execSqTick (l : Nat) (now : Time) (s : State) : Host.Outcome State Fault Refusal :=
  finish (sqTick l now s)

end Sys2Proof.Machine
end

