-- ==== Sys2Proof/Machine/Wire.lean ====
section
/-! DEFINITION. The wire frame FRAME: a frame arrives from the bus (20_memory.md R52, 30_encoding.md R60). -/

namespace Sys2Proof.Machine

/-- FRAME: the two bytes of a well-formed frame arrive at the end of RX, byte 0 first (30_encoding.md R60, 20_memory.md
R44, R52; log 3). The next FR_RX that reaches them takes them (R64). -/
def execFrame (signals : BitVec 10) (spare : BitVec 4) (s : State) : Host.Outcome State Fault Refusal :=
  .next (s.rxArrive [frameByte0 signals, frameByte1 signals spare])

end Sys2Proof.Machine
end

