-- ==== Sys2Proof/Machine/Dispatch.lean ====
section
/-! DEFINITION. One arm per instruction. -/

namespace Sys2Proof.Machine

def exec (i : Instr) (s : State) : Host.Outcome State Fault Refusal :=
  match i with
  | .frame signals spare => Sys2Proof.Machine.execFrame signals spare s
  | .frClear => Sys2Proof.Machine.execFrClear s
  | .frLoad in0 in1 => Sys2Proof.Machine.execFrLoad in0 in1 s
  | .frLoadRaw in0 in1 => Sys2Proof.Machine.execFrLoadRaw in0 in1 s
  | .frSetBit k v => Sys2Proof.Machine.execFrSetBit k v s
  | .frGetBit k => Sys2Proof.Machine.execFrGetBit k s
  | .frIsError => Sys2Proof.Machine.execFrIsError s
  | .frEncode vec => Sys2Proof.Machine.execFrEncode vec s
  | .frDecode => Sys2Proof.Machine.execFrDecode s
  | .frRx => Sys2Proof.Machine.execFrRx s
  | .frTx => Sys2Proof.Machine.execFrTx s
  | .dbInit d stableTime => Sys2Proof.Machine.execDbInit d stableTime s
  | .dbProcess d now reading => Sys2Proof.Machine.execDbProcess d now reading s
  | .dbForce d value => Sys2Proof.Machine.execDbForce d value s
  | .dbStable d => Sys2Proof.Machine.execDbStable d s
  | .fxConfig e config => Sys2Proof.Machine.execFxConfig e config s
  | .fxActivate e now => Sys2Proof.Machine.execFxActivate e now s
  | .fxTick e slot now => Sys2Proof.Machine.execFxTick e slot now s
  | .fxExpired e now => Sys2Proof.Machine.execFxExpired e now s
  | .fxSeed seed now => Sys2Proof.Machine.execFxSeed seed now s
  | .fxFlashPhase now seed => Sys2Proof.Machine.execFxFlashPhase now seed s
  | .fxHue now index ledCount => Sys2Proof.Machine.execFxHue now index ledCount s
  | .fxShimmerLevel e t => Sys2Proof.Machine.execFxShimmerLevel e t s
  | .agUpdate now ignition dim warning critical fuel temperature oil => Sys2Proof.Machine.execAgUpdate now ignition dim warning critical fuel temperature oil s
  | .agPulseQ now => Sys2Proof.Machine.execAgPulseQ now s
  | .agMode => Sys2Proof.Machine.execAgMode s
  | .sqTick l now => Sys2Proof.Machine.execSqTick l now s

end Sys2Proof.Machine
end

