-- ==== Sys2Proof/Machine/Fetch.lean ====
section
/-! DEFINITION. What the block takes next from the caller and the environment (00_scope.md R4, 20_memory.md R52;
log 2), and where a word of the opcode table is placed for it. -/

namespace Sys2Proof.Machine

/-- What the next input is. -/
inductive Fetched where
  /-- An instruction to run in a state. -/
  | run (i : Instr) (s : State)
  /-- No instruction: the state after an action of the environment, or an idle block. -/
  | quiet (s : State)
  /-- No further step. -/
  | stopped (f : Fault)
  /-- A reserved command. -/
  | rejected (r : Refusal)
deriving DecidableEq, Repr

/-- Take the next input. With none the block waits (70_reset_and_hazards.md R200, 60_exceptions.md R193); a block
whose FATAL is set takes nothing but a power-on reset (60_exceptions.md R186; log 13); bytes on the wire
that are no frame arrive in RX all the same (20_memory.md R52; log 4). -/
def fetch (s : State) : Fetched :=
  match s.queue with
  | [] => if s.fatal then .stopped .fatal else .quiet s
  | .powerOn :: rest => .quiet (s.setQueue rest).powerOn
  | .command op p :: rest =>
    if s.fatal then .stopped .fatal
    else match decodeCommand op p with
      | .ok i => .run i (s.setQueue rest)
      | .error r => .rejected (.opFault r)
  | .wire bytes :: rest =>
    if s.fatal then .stopped .fatal
    else match decodeWire bytes with
      | .ok i => .run i (s.setQueue rest)
      | .error _ => .quiet ((s.setQueue rest).rxArrive bytes)
  | .takeTx n :: rest =>
    if s.fatal then .stopped .fatal
    else .quiet ((s.setQueue rest).setTx (s.tx.drop n))

/-- Present an input before every other. -/
def State.present (s : State) (i : Input) : State := s.setQueue (i :: s.queue)

end Sys2Proof.Machine
end

