-- ==== Sys2Proof/Machine/Step.lean ====
section
/-! DEFINITION. One step: take the next input and, where it is an instruction, run it. -/

namespace Sys2Proof.Machine

/-- One step of the block (00_scope.md R4; log 2). -/
def step (s : State) : Host.Outcome State Fault Refusal :=
  match fetch s with
  | .run i s' => exec i s'
  | .quiet s' => .next s'
  | .stopped f => .fault f
  | .rejected r => .refused r

/-- `s` with a word of the opcode table presented first (log 2). -/
def State.withFetchWord (s : State) (nbits w : Nat) : State := s.present (tableInput nbits w)

end Sys2Proof.Machine
end

