-- ==== Sys2Proof/Safety.lean ====
section
/-! DEFINITION. The terms in which claims are stated: sequences of operations, the invariant of the block, the
contexts a sequencer is built with. -/

namespace Sys2Proof.Machine

/-- The bytes of a list of frames, byte 0 of each first (20_memory.md R44). -/
def frameBytes : List Frame → List Byte
  | [] => []
  | f :: fs => f.b0 :: f.b1 :: frameBytes fs

/-- Operations performed one after another, stopping at the first that does not answer. -/
def execAll : List Instr → State → Host.Outcome State Fault Refusal
  | [], s => .next s
  | i :: is, s =>
    match exec i s with
    | .next t => execAll is t
    | .fault f => .fault f
    | .refused r => .refused r

/-- `n` attempts to receive a frame: their results and the state after them; `none` if one does not answer. -/
def attempts : Nat → State → Option (List RxStatus × State)
  | 0, s => some ([], s)
  | n + 1, s =>
    match exec .frRx s with
    | .next t =>
      match t.result with
      | .rxStatus r => (attempts n t).map fun (rs, u) => (r :: rs, u)
      | .nothing | .bit _ | .decoded _ _ | .edge _ | .edges _ _ _ _ | .hue _ | .level _ | .mode _ => none
    | .fault _ => none
    | .refused _ => none

/-- DB_PROCESS of instance `d` at each of a list of calls: the edges emitted; `none` if one does not answer. -/
def edgesOf (d : Nat) : List (Time × Bool) → State → Option (List Edge)
  | [], _ => some []
  | (now, reading) :: calls, s =>
    match exec (.dbProcess d now reading) s with
    | .next t =>
      match t.result with
      | .edge e => (edgesOf d calls t).map (e :: ·)
      | .nothing | .bit _ | .decoded _ _ | .rxStatus _ | .edges _ _ _ _ | .hue _ | .level _ | .mode _ => none
    | .fault _ => none
    | .refused _ => none

/-- Readings that differ at every call from the one before, the first from `prev` (41_debouncer.md R105 (b)). -/
def alternates : Bool → List (Time × Bool) → Bool
  | _, [] => true
  | prev, (_, reading) :: calls => (reading != prev) && alternates reading calls

/-- Context `e` is configured as `k`. -/
def State.HasConfig (s : State) (e : Nat) (k : FxConfig) : Prop :=
  ∃ c, s.fx[e]? = some c ∧ c.config = some k

/-- SQ[l] may choose at `now`: it is null, or FX_EXPIRED of its current context answers true
(43_aggregator_and_sequencer.md R158). -/
def State.MayChoose (s : State) (q : Sequencer) (now : Time) : Prop :=
  q.cur = none ∨ ∃ e t, q.cur = some e ∧ exec (.fxExpired e now) s = .next t ∧ t.result = .bit true

/-! ### The invariant -/

/-- The current context of a sequencer is one of its set, in use, configured and activated (10_state.md R19,
42_effect_engines.md R134). -/
def State.currentOk (s : State) (q : Sequencer) : Bool :=
  match q.cur with
  | none => true
  | some e =>
    q.set.any (fun p => p.2 == e) && s.fxInUse e &&
      match s.fx[e]? with
      | some c => c.config.isSome && c.tact.isSome
      | none => false

/-- A context's configuration meets R133, and its dark interval lies in 0 .. 5 × FLASH_DURATION (R17). -/
def State.contextOk (s : State) (c : Context) : Bool :=
  c.config.all s.configOk
    && c.spDark.all (fun d => decide (d.toNat ≤ Config.sparkleMaxDark s.params.flashDuration))
    && (c.spT0.isSome == c.spDark.isSome)

/-- Analog levels are 0 to 1023 (10_state.md R18). -/
def RawInputs.ok (i : RawInputs) : Bool :=
  decide (i.fuel.toNat ≤ Config.analogMax) && decide (i.temperature.toNat ≤ Config.analogMax)
    && decide (i.oil.toNat ≤ Config.analogMax)

/-- What holds of the block at every moment. -/
structure State.Inv (s : State) : Prop where
  /-- The parameters meet R7's constraints. -/
  params : s.params.Ok
  /-- LED_COUNT is at least 1 (R7). -/
  ledCount : 1 ≤ s.ledCount
  /-- RX holds at most RX_DEPTH bytes (20_memory.md R41). -/
  rxFits : s.rx.length ≤ s.params.rxDepth
  /-- CB is in canonical form (log 22). -/
  cbCanonical : Memory.wf s.cb = true
  /-- Only slots below LED_COUNT were written (20_memory.md R43). -/
  cbSlots : ∀ p ∈ s.cb, p.1 < s.ledCount
  /-- The wrapper has its four debouncers (10_state.md R18), and every instance its usage mark. -/
  banks : 4 ≤ s.db.length ∧ s.dbUsed.length = s.db.length ∧ s.fxUsed.length = s.fx.length
  /-- Every context is well configured (R133, R17). -/
  contexts : ∀ c ∈ s.fx, s.contextOk c = true
  /-- The stored analog levels are in range (R18). -/
  levels : s.snapInputs.all RawInputs.ok = true
  /-- The aggregator holds no errored frame (43_aggregator_and_sequencer.md R152). -/
  snapFrame : s.snapFrame.isError = false
  /-- Sequencers own distinct slots below LED_COUNT (43_aggregator_and_sequencer.md R167). -/
  slots : (∀ q ∈ s.sq, q.slot < s.ledCount) ∧ (s.sq.map Sequencer.slot).Nodup
  /-- Every current context can be ticked (R134). -/
  currents : ∀ q ∈ s.sq, s.currentOk q = true

end Sys2Proof.Machine
end

