-- ==== Sys2Proof/Certificates/Slice0/Obligations.lean ====
section
/-! DEFINITION. The statements for the provers. A record update `{ s with … }` in a conclusion says what an
operation writes and, by the fields it does not name, that everything else is unchanged. -/

open Sys2Proof Sys2Proof.Machine

/-! ### Encodings -/

/-- Decoding an encoded well-formed instruction gives it back, every operand at every value (30_encoding.md R60 to
R70). -/
def Obligations.DecodeOfEncodeGivesInstructionBack : Prop :=
  ∀ i : Instr, i.WellFormed → decode (encode i) = .ok i

/-- The wire frame is read and written bit for bit: two bytes are a FRAME exactly when bit 7 of byte 0 is 1 and
bit 7 of byte 1 is 0, its fields are R61's bits, and encoding it gives the bytes back (30_encoding.md R60,
R61, R64). -/
def Obligations.WireFrameDecodesExactly : Prop :=
  (∀ b0 b1 : Byte, b0.getLsbD 7 = true → b1.getLsbD 7 = false →
    ∃ signals spare, decodeWire [b0, b1] = .ok (.frame signals spare)
      ∧ encode (.frame signals spare) = .wire [b0, b1]
      ∧ (∀ k < 7, signals.getLsbD k = b0.getLsbD k)
      ∧ (∀ k < 3, signals.getLsbD (7 + k) = b1.getLsbD k)
      ∧ (∀ k < 4, spare.getLsbD k = b1.getLsbD (3 + k)))
  ∧ (∀ b0 b1 : Byte, b0.getLsbD 7 = false → decodeWire [b0, b1] = .error .badStart)
  ∧ (∀ b0 b1 : Byte, b0.getLsbD 7 = true → b1.getLsbD 7 = true → decodeWire [b0, b1] = .error .badContinuation)
  ∧ (∀ bytes : List Byte, bytes.length ≠ 2 → decodeWire bytes = .error .notTwoBytes)

/-- Every opcode that is no row of R66 is reserved whatever its operands; each of the 26 rows is read as its own
operation, every operand from the port of its name, FX_CONFIG by the kind code of R70; a signal index of 10 to 15,
an analog level above 1023, a configuration that breaks R133 and the kinds 6 and 7 are reserved (30_encoding.md
R65, R66, R67, R70, R75; that the ports are a record is log 1, the causes are log 10). -/
def Obligations.OpcodeMapIsExactlyTheTable : Prop :=
  let rows : List Byte := [0x00, 0x01, 0x02, 0x03, 0x04, 0x05, 0x06, 0x07, 0x08, 0x09, 0x10, 0x11, 0x12, 0x13,
    0x20, 0x21, 0x22, 0x23, 0x24, 0x25, 0x26, 0x27, 0x30, 0x31, 0x32, 0x33]
  (∀ op p, op ∉ rows → decodeCommand op p = .error .unknownOpcode)
  ∧ ∀ p : Ports,
    (decodeCommand 0x00 p = .ok .frClear
      ∧ decodeCommand 0x01 p = .ok (.frLoad p.in0 p.in1)
      ∧ decodeCommand 0x02 p = .ok (.frLoadRaw p.in0 p.in1)
      ∧ decodeCommand 0x03 p = (if p.k.toNat < 10 then .ok (.frSetBit p.k p.v) else .error .signalIndex)
      ∧ decodeCommand 0x04 p = (if p.k.toNat < 10 then .ok (.frGetBit p.k) else .error .signalIndex)
      ∧ decodeCommand 0x05 p = .ok .frIsError
      ∧ decodeCommand 0x06 p = .ok (.frEncode p.vec)
      ∧ decodeCommand 0x07 p = .ok .frDecode
      ∧ decodeCommand 0x08 p = .ok .frRx
      ∧ decodeCommand 0x09 p = .ok .frTx)
    ∧ (decodeCommand 0x10 p = .ok (.dbInit p.d p.stableTime)
      ∧ decodeCommand 0x11 p = .ok (.dbProcess p.d p.now p.reading)
      ∧ decodeCommand 0x12 p = .ok (.dbForce p.d p.value)
      ∧ decodeCommand 0x13 p = .ok (.dbStable p.d))
    ∧ ((p.kind = 0 → decodeCommand 0x20 p = .ok (.fxConfig p.e (.solid p.color)))
      ∧ (p.kind = 1 → decodeCommand 0x20 p = .ok (.fxConfig p.e (.timedSolid p.color p.lifetime)))
      ∧ (p.kind = 2 → decodeCommand 0x20 p = .ok (.fxConfig p.e (.flash p.color p.activeHalf p.seedId)))
      ∧ (p.kind = 3 → decodeCommand 0x20 p =
          if p.index < p.ledCount then .ok (.fxConfig p.e (.rainbow p.ledCount p.index))
          else .error .badConfiguration)
      ∧ (p.kind = 4 → decodeCommand 0x20 p = .ok (.fxConfig p.e .sparkle))
      ∧ (p.kind = 5 → decodeCommand 0x20 p =
          if 1 ≤ p.duration then .ok (.fxConfig p.e (.shimmer
            ⟨p.px, p.py, p.duration, p.distanceFactor, p.speedFactor, p.initialOffset, p.slope⟩))
          else .error .badConfiguration)
      ∧ (p.kind = 6 ∨ p.kind = 7 → decodeCommand 0x20 p = .error .effectKind))
    ∧ (decodeCommand 0x21 p = .ok (.fxActivate p.e p.now)
      ∧ decodeCommand 0x22 p = .ok (.fxTick p.e p.slot p.now)
      ∧ decodeCommand 0x23 p = .ok (.fxExpired p.e p.now)
      ∧ decodeCommand 0x24 p = .ok (.fxSeed p.s p.now)
      ∧ decodeCommand 0x25 p = .ok (.fxFlashPhase p.now p.seed)
      ∧ decodeCommand 0x26 p = .ok (.fxHue p.now p.index p.ledCount)
      ∧ decodeCommand 0x27 p = .ok (.fxShimmerLevel p.e p.t))
    ∧ (decodeCommand 0x30 p =
          (if p.fuel.toNat ≤ 1023 ∧ p.temperature.toNat ≤ 1023 ∧ p.oil.toNat ≤ 1023 then
            .ok (.agUpdate p.now p.ignition p.backlightDim p.tachWarning p.tachCritical p.fuel p.temperature p.oil)
          else .error .analogRange)
      ∧ decodeCommand 0x31 p = .ok (.agPulseQ p.now)
      ∧ decodeCommand 0x32 p = .ok .agMode
      ∧ decodeCommand 0x33 p = .ok (.sqTick p.l p.now))

/-- Whatever decodes is well formed: a signal index is below 10, an analog level at most 1023, a configuration
meets R133's constraints (30_encoding.md R67). -/
def Obligations.DecodedInstructionsAreWellFormed : Prop :=
  ∀ (x : Input) (i : Instr), decode x = .ok i → i.WellFormed

/-- A few words written out from R60 and R66. -/
def Obligations.SampleWordsDecode : Prop :=
  decodeTableWord 16 0b1000010000000010 = some (.frame 0x104 0)
  ∧ decodeTableWord 16 0b1111111101111111 = some (.frame 0x3FF 0xF)
  ∧ decodeTableWord 16 0b1000000010000000 = none
  ∧ decodeTableWord 8 0b00000000 = some .frClear
  ∧ decodeTableWord 8 0b00010001 = some (.dbProcess 0 0 false)
  ∧ decodeTableWord 8 0b00100110 = some (.fxHue 0 0 0)
  ∧ decodeTableWord 8 0b00110011 = some (.sqTick 0 0)
  ∧ decodeTableWord 8 0b00001010 = none

/-! ### The step -/

/-- When the next input decodes to an instruction and FATAL is clear, a step is `exec` of it on the state with that
input taken (00_scope.md R4; that inputs stand in a queue is the model's choice, log 2). -/
def Obligations.StepRunsTheDecodedInstruction : Prop :=
  (∀ (s : State) (x : Input) (rest : List Input) (i : Instr),
    s.fatal = false → s.queue = x :: rest → decode x = .ok i → step s = exec i { s with queue := rest })
  ∧ (∀ (s : State) (nbits w : Nat) (i : Instr),
    s.fatal = false → decodeTableWord nbits w = some i → step (s.withFetchWord nbits w) = exec i s)

/-- With nothing presented the block waits, and what the environment does changes RX and TX alone
(60_exceptions.md R193, 20_memory.md R52; the queue and the overflow of RX are the model's, logs 2 and 5). -/
def Obligations.EnvironmentTouchesOnlyTheStreams : Prop :=
  (∀ s : State, s.fatal = false → s.queue = [] → step s = .next s)
  ∧ (∀ (s : State) (bytes : List Byte) (rest : List Input), s.fatal = false → s.queue = .wire bytes :: rest →
      s.rx.length + bytes.length ≤ s.params.rxDepth →
      step s = .next { s with rx := s.rx ++ bytes, queue := rest })
  ∧ (∀ (s : State) (bytes : List Byte) (rest : List Input), s.fatal = false → s.queue = .wire bytes :: rest →
      ∃ t, step s = .next t ∧ t.rx.length ≤ s.params.rxDepth
        ∧ t = { s with rx := t.rx, rxDraws := t.rxDraws, queue := rest })
  ∧ (∀ (s : State) (n : Nat) (rest : List Input), s.fatal = false → s.queue = .takeTx n :: rest →
      step s = .next { s with tx := s.tx.drop n, queue := rest })

/-- A block with FATAL set takes no step but a power-on reset, which clears FATAL (10_state.md R24, 60_exceptions.md
R186; log 13). -/
def Obligations.FatalStopsUntilReset : Prop :=
  (∀ s : State, s.fatal = true → (∀ rest, s.queue ≠ .powerOn :: rest) → step s = .fault .fatal)
  ∧ (∀ (s : State) (rest : List Input), s.queue = .powerOn :: rest → ∃ t, step s = .next t ∧ t.fatal = false)

/-- What reset leaves where the spec gives the value (10_state.md R26), in the reset state and after a power-on
reset of any state, which keeps the configuration registers and does not touch RX, TX and CB
(70_reset_and_hazards.md R200). -/
def Obligations.ResetLeavesTheSpecValues : Prop :=
  (State.reset.fb = ⟨0x80, 0x00⟩ ∧ State.reset.snapFrame = ⟨0x80, 0x00⟩ ∧ State.reset.mode = .none
    ∧ State.reset.pulseStart = 0 ∧ State.reset.pulseArmed = false ∧ State.reset.fatal = false
    ∧ (∀ x ∈ State.reset.db, x.stable = false ∧ x.prev = false ∧ x.tchg = 0)
    ∧ (∀ c ∈ State.reset.fx, c.tact = none ∧ c.spT0 = none ∧ c.spDark = none)
    ∧ (∀ q ∈ State.reset.sq, q.cur = none ∧ q.seed = none) ∧ State.reset.snapInputs = none)
  ∧ ∀ (s : State) (rest : List Input), s.queue = .powerOn :: rest → ∃ t, step s = .next t
    ∧ t.fb = ⟨0x80, 0x00⟩ ∧ t.snapFrame = ⟨0x80, 0x00⟩ ∧ t.mode = .none ∧ t.pulseStart = 0
    ∧ t.pulseArmed = false ∧ t.fatal = false ∧ t.snapInputs = none
    ∧ (∀ (d : Nat) (x : Debouncer), s.db[d]? = some x → t.db[d]? = some ⟨false, false, 0, x.tstable⟩)
    ∧ (∀ (e : Nat) (c : Context), s.fx[e]? = some c → t.fx[e]? = some { c with tact := none, spT0 := none, spDark := none })
    ∧ (∀ (l : Nat) (q : Sequencer), s.sq[l]? = some q → t.sq[l]? = some { q with cur := none, seed := none })
    ∧ t.rx = s.rx ∧ t.tx = s.tx ∧ t.cb = s.cb ∧ t.params = s.params ∧ t.queue = rest

/-- The invariant holds at reset (the parameter values there are the model's choice, logs 15 and 16). -/
def Obligations.ResetMeetsInvariant : Prop := State.reset.Inv

/-- Every step keeps the invariant: LED_COUNT at least 1, CB canonical and within LED_COUNT, RX within RX_DEPTH,
configurations legal, dark intervals within 5 × FLASH_DURATION, analog levels in range, no errored frame held,
distinct slots, every current context in its set, configured and activated (00_scope.md R7, 10_state.md R11 to R19,
42_effect_engines.md R133, R134, 43_aggregator_and_sequencer.md R152, R167). -/
def Obligations.StepKeepsInvariant : Prop :=
  ∀ s t : State, s.Inv → step s = .next t → t.Inv

/-- No step changes a parameter, the size of a bank, a sequencer's slot, set or indicator, or a configuration
register of an instance in use (70_reset_and_hazards.md R208, 20_memory.md R51). -/
def Obligations.ConfigurationIsConstant : Prop :=
  ∀ s t : State, step s = .next t →
    t.params = s.params ∧ t.db.length = s.db.length ∧ t.fx.length = s.fx.length ∧ t.sq.length = s.sq.length
    ∧ (∀ (l : Nat) (q : Sequencer), s.sq[l]? = some q → ∃ q', t.sq[l]? = some q'
        ∧ q'.slot = q.slot ∧ q'.set = q.set ∧ q'.indicator = q.indicator)
    ∧ (∀ (e : Nat) (c : Context), s.fx[e]? = some c → s.fxInUse e = true → ∃ c', t.fx[e]? = some c' ∧ c'.config = c.config)
    ∧ (∀ (d : Nat) (x : Debouncer), s.db[d]? = some x → s.dbInUse d = true → ∃ x', t.db[d]? = some x' ∧ x'.tstable = x.tstable)

/-- The operations R6 lists, and AG_MODE (43_aggregator_and_sequencer.md R157), write no state: only the result port
and the model's own usage marks (log 12, log 17) can differ after them (00_scope.md R6). -/
def Obligations.QueriesWriteNoState : Prop :=
  ∀ (s t : State) (i : Instr), exec i s = .next t →
    ((∃ k, i = .frGetBit k) ∨ i = .frIsError ∨ i = .frDecode ∨ (∃ d, i = .dbStable d)
      ∨ (∃ e now, i = .fxExpired e now) ∨ (∃ now seed, i = .fxFlashPhase now seed)
      ∨ (∃ now index n, i = .fxHue now index n) ∨ (∃ e u, i = .fxShimmerLevel e u)
      ∨ (∃ now, i = .agPulseQ now) ∨ i = .agMode) →
    t = { s with result := t.result, dbUsed := t.dbUsed, fxUsed := t.fxUsed }

/-! ### Framer -/

/-- FR_CLEAR (40_framer.md R80): the default frame, all signals false, not errored, spare bits 0, well formed. -/
def Obligations.ClearGivesTheDefaultFrame : Prop :=
  ∀ s : State, ∃ t, exec .frClear s = .next t
    ∧ t = { s with fb := ⟨0x80, 0x00⟩, result := .nothing }
    ∧ (∀ k < 10, t.fb.signal k = false) ∧ spareOf t.fb.b1 = 0
    ∧ t.fb.b0.getLsbD 7 = true ∧ t.fb.b1.getLsbD 7 = false
    ∧ exec .frIsError t = .next { t with result := .bit false }

/-- FR_LOAD forces the two marker bits and stores the fourteen others as given; FR_LOAD_RAW forces nothing
(40_framer.md R81, R82). -/
def Obligations.LoadForcesMarkersAndRawDoesNot : Prop :=
  ∀ (s : State) (in0 in1 : Byte),
    (∃ f, exec (.frLoad in0 in1) s = .next { s with fb := f, result := .nothing }
      ∧ f.b0.getLsbD 7 = true ∧ f.b1.getLsbD 7 = false
      ∧ ∀ i < 7, f.b0.getLsbD i = in0.getLsbD i ∧ f.b1.getLsbD i = in1.getLsbD i)
    ∧ exec (.frLoadRaw in0 in1) s = .next { s with fb := ⟨in0, in1⟩, result := .nothing }

/-- FR_SET_BIT writes one bit of FB, bit `k % 7` of byte `k / 7`, and keeps the fifteen others; an index of 10 to 15
is refused (40_framer.md R83, 30_encoding.md R61, R67). -/
def Obligations.SetBitWritesOneBit : Prop :=
  ∀ (s : State) (k : BitVec 4) (v : Bool),
    (k.toNat < 10 → ∃ f, exec (.frSetBit k v) s = .next { s with fb := f, result := .nothing }
      ∧ ∀ j < 2, ∀ i < 8, (f.byte j).getLsbD i =
          if j = k.toNat / 7 ∧ i = k.toNat % 7 then v else (s.fb.byte j).getLsbD i)
    ∧ (10 ≤ k.toNat → exec (.frSetBit k v) s = .refused (.opFault .signalIndex))

/-- FR_GET_BIT returns the stored bit whether or not the frame is errored, and writes nothing (40_framer.md R84); an
index of 10 to 15 is refused (30_encoding.md R67; that a reserved command is the refusal `opFault` is DEDUCED,
log 10). -/
def Obligations.GetBitReturnsTheStoredBit : Prop :=
  ∀ (s : State) (k : BitVec 4),
    (k.toNat < 10 → exec (.frGetBit k) s =
      .next { s with result := .bit ((s.fb.byte (k.toNat / 7)).getLsbD (k.toNat % 7)) })
    ∧ (10 ≤ k.toNat → exec (.frGetBit k) s = .refused (.opFault .signalIndex))

/-- FR_IS_ERROR returns the complement of bit 7 of byte 0, whatever byte 1 holds, and writes nothing
(40_framer.md R85). -/
def Obligations.IsErrorReadsOnlyTheStartMarker : Prop :=
  ∀ s : State, exec .frIsError s = .next { s with result := .bit (!s.fb.b0.getLsbD 7) }

/-- FR_DECODE returns the ten stored signals and the error indication, and writes nothing (40_framer.md R87). -/
def Obligations.DecodeReturnsSignalsAndError : Prop :=
  ∀ s : State, ∃ vec : BitVec 10,
    exec .frDecode s = .next { s with result := .decoded vec (!s.fb.b0.getLsbD 7) }
    ∧ (∀ k < 7, vec.getLsbD k = s.fb.b0.getLsbD k) ∧ (∀ k < 3, vec.getLsbD (7 + k) = s.fb.b1.getLsbD k)

/-- FR_ENCODE places signal `k` at byte `k / 7` bit `k % 7`, forces the markers, clears the spare bits
(40_framer.md R86, 30_encoding.md R61). -/
def Obligations.EncodePlacesEverySignal : Prop :=
  ∀ (s : State) (vec : BitVec 10), ∃ f, exec (.frEncode vec) s = .next { s with fb := f, result := .nothing }
    ∧ (∀ k < 10, (f.byte (k / 7)).getLsbD (k % 7) = vec.getLsbD k)
    ∧ f.b0.getLsbD 7 = true ∧ f.b1.getLsbD 7 = false ∧ (∀ i < 4, f.b1.getLsbD (3 + i) = false)

/-- FR_ENCODE equals FR_CLEAR followed by the ten FR_SET_BIT in any order (30_encoding.md R74, 40_framer.md R86). -/
def Obligations.EncodeIsClearThenSetBitsInAnyOrder : Prop :=
  ∀ (s : State) (vec : BitVec 10) (ks : List Nat), ks.Perm (List.range 10) →
    execAll (.frClear :: ks.map fun k => .frSetBit (BitVec.ofNat 4 k) (vec.getLsbD k)) s
      = exec (.frEncode vec) s

/-- Round trip through one framer: after FR_ENCODE v, FR_DECODE returns (v, false) (40_framer.md R91). -/
def Obligations.EncodeThenDecodeRoundTrip : Prop :=
  ∀ (s : State) (vec : BitVec 10), ∃ t, exec (.frEncode vec) s = .next t
    ∧ exec .frDecode t = .next { t with result := .decoded vec false }

/-- FR_TX appends one transaction to address 9 holding the two raw bytes, byte 0 first, and keeps FB (40_framer.md R90,
20_memory.md R42, R44). -/
def Obligations.TransmitAppendsTheRawFrame : Prop :=
  ∀ s : State, exec .frTx s =
    .next { s with tx := s.tx ++ [⟨9, [s.fb.b0, s.fb.b1]⟩], result := .nothing }

/-- FR_RX: with fewer than two bytes waiting nothing is popped; a wrong start marker pops one byte; a wrong
continuation marker pops two; otherwise the two bytes become FB. `is_error` afterwards holds exactly when the
status is not RX_OK. Nothing but FB, RX and the result port (and the model's draw count, log 6) changes
(40_framer.md R88, 60_exceptions.md R181 to R183, 30_encoding.md R72). -/
def Obligations.ReceiveFollowsTheMarkers : Prop :=
  ∀ s : State, ∃ t r, exec .frRx s = .next t
    ∧ t = { s with fb := t.fb, fbDraws := t.fbDraws, rx := t.rx, result := .rxStatus r }
    ∧ (s.rx.length < 2 → r = .underrun ∧ t.rx = s.rx)
    ∧ (∀ b0 b1 rest, s.rx = b0 :: b1 :: rest → b0.getLsbD 7 = false → r = .badStart ∧ t.rx = b1 :: rest)
    ∧ (∀ b0 b1 rest, s.rx = b0 :: b1 :: rest → b0.getLsbD 7 = true → b1.getLsbD 7 = true →
        r = .badCont ∧ t.rx = rest)
    ∧ (∀ b0 b1 rest, s.rx = b0 :: b1 :: rest → b0.getLsbD 7 = true → b1.getLsbD 7 = false →
        r = .ok ∧ t.rx = rest ∧ t.fb = ⟨b0, b1⟩)
    ∧ (t.fb.b0.getLsbD 7 = false ↔ r ≠ .ok)

/-- Round trip through the bus: a frame encoded and transmitted by framer A and delivered to the otherwise empty RX
of framer B is received as RX_OK and decodes to (v, false) (40_framer.md R91). -/
def Obligations.BusRoundTrip : Prop :=
  ∀ (a b : State) (vec : BitVec 10), b.rx = [] → 2 ≤ b.params.rxDepth →
    ∃ a1 a2 b1 tr, exec (.frEncode vec) a = .next a1 ∧ exec .frTx a1 = .next a2
      ∧ a2.tx = a.tx ++ [tr] ∧ tr.addr = 9
      ∧ exec .frRx (b.rxArrive tr.bytes) = .next b1 ∧ b1.result = .rxStatus .ok ∧ b1.rx = []
      ∧ exec .frDecode b1 = .next { b1 with result := .decoded vec false }

/-- A FRAME that fits arrives at the end of RX, byte 0 first, with R61's bits; one that does not fit leaves at most
RX_DEPTH bytes. That FRAME is the arrival of a frame, and what an overflow leaves, are the model's choices (logs 3
and 5; 20_memory.md R52, 30_encoding.md R60). -/
def Obligations.FrameArrivesInTheReceiveStream : Prop :=
  ∀ (s : State) (signals : BitVec 10) (spare : BitVec 4),
    (s.rx.length + 2 ≤ s.params.rxDepth → ∃ b0 b1 : Byte,
      exec (.frame signals spare) s = .next { s with rx := s.rx ++ [b0, b1] }
      ∧ b0.getLsbD 7 = true ∧ b1.getLsbD 7 = false
      ∧ (∀ k < 7, b0.getLsbD k = signals.getLsbD k) ∧ (∀ k < 3, b1.getLsbD k = signals.getLsbD (7 + k))
      ∧ (∀ k < 4, b1.getLsbD (3 + k) = spare.getLsbD k))
    ∧ (s.params.rxDepth < s.rx.length + 2 → ∃ t, exec (.frame signals spare) s = .next t
      ∧ t.rx.length ≤ s.params.rxDepth ∧ t = { s with rx := t.rx, rxDraws := t.rxDraws })

/-- FB stays well formed under every operation but FR_LOAD_RAW and a failed FR_RX, and FR_CLEAR, FR_LOAD, FR_ENCODE
and a successful FR_RX make it so (10_state.md R11, 40_framer.md R82). -/
def Obligations.OnlyRawLoadAndFailedReceiveBreakTheFrame : Prop :=
  (∀ (s t : State) (i : Instr), exec i s = .next t → s.fb.wellFormed = true →
    (∀ in0 in1, i ≠ .frLoadRaw in0 in1) → (i = .frRx → t.result = .rxStatus .ok) → t.fb.wellFormed = true)
  ∧ (∀ (s t : State) (i : Instr), exec i s = .next t →
    (i = .frClear ∨ (∃ in0 in1, i = .frLoad in0 in1) ∨ (∃ vec, i = .frEncode vec)
      ∨ (i = .frRx ∧ t.result = .rxStatus .ok)) → t.fb.wellFormed = true)

/-- Attempts that begin on a frame boundary each take a whole frame, and an attempt that begins on the second byte of
a frame fails, consumes that byte and leaves the next on a boundary (40_framer.md R92 (b)). -/
def Obligations.AlignedFramesAreAllReceived : Prop :=
  ∀ (s : State) (fs : List Frame) (rest : List Byte), (∀ f ∈ fs, f.wellFormed = true) →
    (s.rx = frameBytes fs ++ rest →
      ∃ t, attempts fs.length s = some (List.replicate fs.length .ok, t) ∧ t.rx = rest
        ∧ ∀ f, fs.getLast? = some f → t.fb = f)
    ∧ (∀ b : Byte, s.rx = b :: frameBytes fs ++ rest → fs ≠ [] → b.getLsbD 7 = false →
      ∃ t, attempts (fs.length + 1) s = some (.badStart :: List.replicate fs.length .ok, t) ∧ t.rx = rest)

/-- Self-synchronisation: whatever garbage stands before a run of well-formed frames, some attempt after at most one
attempt per garbage byte and one more begins on the first frame or, one frame lost, on the second, and in
the second case the last two results before it are RX_BAD_CONT and RX_BAD_START (40_framer.md R92). -/
def Obligations.ReceiverResynchronisesAfterGarbage : Prop :=
  ∀ (s : State) (garbage : List Byte) (f g : Frame) (fs : List Frame) (rest : List Byte),
    (∀ h ∈ f :: g :: fs, h.wellFormed = true) → s.rx = garbage ++ frameBytes (f :: g :: fs) ++ rest →
    ∃ n rs t, n ≤ garbage.length + 1 ∧ attempts n s = some (rs, t) ∧
      (t.rx = frameBytes (f :: g :: fs) ++ rest
        ∨ (t.rx = frameBytes (g :: fs) ++ rest ∧ ∃ before, rs = before ++ [.badCont, .badStart]))

/-! ### Debouncer -/

/-- DB_INIT sets the window and clears the three state registers of an instance not yet in use, touches nothing else,
and is refused once the instance is in use (41_debouncer.md R100, R106; 20_memory.md R51). -/
def Obligations.DebouncerInitConstructsOnce : Prop :=
  ∀ (s : State) (d : Nat) (x : Debouncer) (window : Time), s.db[d]? = some x →
    (s.dbInUse d = false → exec (.dbInit d window) s =
      .next { s with db := s.db.set d ⟨false, false, 0, window⟩, result := .nothing })
    ∧ (s.dbInUse d = true → exec (.dbInit d window) s = .refused (.opFault .reconfiguration))

/-- DB_PROCESS: step 1 restarts the time of change when the reading differs from the last one, step 2 accepts a
reading that differs from the stable value and has persisted for the window and emits its edge, step 4
records the reading; no other instance is touched (41_debouncer.md R101). The frame leaves out only the
model's own usage marks, which this statement says nothing about (log 12). -/
def Obligations.DebouncerProcessFollowsTheSteps : Prop :=
  ∀ (s : State) (d : Nat) (x : Debouncer) (now : Time) (reading : Bool), s.db[d]? = some x →
    ∀ tchg : Time, tchg = (if reading = x.prev then x.tchg else now) →
    ∃ t, exec (.dbProcess d now reading) s = .next t
      ∧ ((x.tstable ≤ now - tchg ∧ reading ≠ x.stable) → t = { s with
          db := s.db.set d ⟨reading, reading, tchg, x.tstable⟩
          dbUsed := t.dbUsed
          result := .edge (if reading then .toHigh else .toLow) })
      ∧ (¬(x.tstable ≤ now - tchg ∧ reading ≠ x.stable) → t = { s with
          db := s.db.set d ⟨x.stable, reading, tchg, x.tstable⟩
          dbUsed := t.dbUsed
          result := .edge .none })

/-- DB_FORCE writes the stable value alone; DB_STABLE returns it and writes no register (41_debouncer.md R102, R103; the
usage mark is the model's, log 12). -/
def Obligations.DebouncerForceAndStable : Prop :=
  ∀ (s : State) (d : Nat) (x : Debouncer), s.db[d]? = some x →
    (∀ value : Bool, exec (.dbForce d value) s = .next { s with
      db := s.db.set d ⟨value, x.prev, x.tchg, x.tstable⟩, dbUsed := s.dbUsed.set d true, result := .nothing })
    ∧ exec (.dbStable d) s = .next { s with dbUsed := s.dbUsed.set d true, result := .bit x.stable }

/-- A step input held for the window produces exactly one edge, at the first call at or past the boundary: `t0` is the
call that first sees the reading, `early` the calls before the boundary, `t` the first past it (41_debouncer.md
R104; no wrap: no call is before `t0`); with a window of 0 the edge comes at `t0` itself (R105 (a)). -/
def Obligations.HeldStepGivesExactlyOneEdge : Prop :=
  ∀ (s : State) (d : Nat) (x : Debouncer) (reading : Bool) (t0 t : Time) (early late : List Time),
    s.db[d]? = some x → x.stable = !reading → x.prev = !reading →
    (∀ u ∈ early, t0 ≤ u ∧ u - t0 < x.tstable) → t0 ≤ t → x.tstable ≤ t - t0 →
    (0 < x.tstable → edgesOf d ((t0 :: early ++ t :: late).map fun u => (u, reading)) s =
      some (List.replicate (early.length + 1) .none ++ [if reading then .toHigh else .toLow]
        ++ List.replicate late.length .none))
    ∧ (x.tstable = 0 → edgesOf d ((t0 :: late).map fun u => (u, reading)) s =
      some ((if reading then .toHigh else .toLow) :: List.replicate late.length .none))

/-- An excursion that reverts before the window ends produces no edge at all, neither while it lasts nor after it,
for as long as the old reading then holds (41_debouncer.md R104, R105 (c), (d)). -/
def Obligations.ShortExcursionGivesNoEdge : Prop :=
  ∀ (s : State) (d : Nat) (x : Debouncer) (t0 : Time) (during after : List Time),
    s.db[d]? = some x → x.prev = x.stable → 0 < x.tstable →
    (∀ u ∈ during, t0 ≤ u ∧ u - t0 < x.tstable) →
    edgesOf d ((t0 :: during).map (fun u => (u, !x.stable)) ++ after.map fun u => (u, x.stable)) s =
      some (List.replicate (1 + during.length + after.length) .none)

/-- Noise that changes at every call never produces an edge when the window is at least 1 ms (41_debouncer.md R105 (b),
60_exceptions.md R185). -/
def Obligations.AlternatingNoiseIsAbsorbed : Prop :=
  ∀ (s : State) (d : Nat) (x : Debouncer) (calls : List (Time × Bool)), s.db[d]? = some x → 0 < x.tstable →
    alternates x.prev calls = true → edgesOf d calls s = some (List.replicate calls.length .none)

/-! ### Effect engines -/

/-- FX_CONFIG sets the configuration and leaves the timestamps without a value, on a context not yet in use and for a
configuration that meets R133; it is refused otherwise (42_effect_engines.md R133, 20_memory.md R51). The refusals
are log 10, when a context is in use is log 12, and that the usage is reported before a bad configuration is the
model's order of causes, log 26. -/
def Obligations.FxConfigConstructsOnce : Prop :=
  ∀ (s : State) (e : Nat) (c : Context) (k : FxConfig), s.fx[e]? = some c →
    (s.fxInUse e = false → k.legal = true → (∀ color half n, k = .flash color half n → n < s.sq.length) →
      exec (.fxConfig e k) s =
        .next { s with fx := s.fx.set e ⟨some k, none, none, none, c.rolls⟩, result := .nothing })
    ∧ (s.fxInUse e = true → exec (.fxConfig e k) s = .refused (.opFault .reconfiguration))
    ∧ (s.fxInUse e = false → (k.legal = false ∨ ∃ color half n, k = .flash color half n ∧ s.sq.length ≤ n) →
      exec (.fxConfig e k) s = .refused (.opFault .badConfiguration))

/-- FX_ACTIVATE records the activation time; a Sparkle also starts a cycle with a dark interval drawn from 0 .. 5 ×
FLASH_DURATION; no other register changes (42_effect_engines.md R116, R127; the draw is free, log 7; the usage mark
is the model's, log 12). -/
def Obligations.ActivateRecordsTheTime : Prop :=
  ∀ (s : State) (e : Nat) (c : Context) (k : FxConfig) (now : Time), s.fx[e]? = some c → c.config = some k →
    ∃ c', exec (.fxActivate e now) s =
        .next { s with fx := s.fx.set e c', fxUsed := s.fxUsed.set e true, result := .nothing }
      ∧ (k ≠ .sparkle → c' = { c with tact := some now })
      ∧ (k = .sparkle → ∃ dark : Time, dark.toNat ≤ 5 * s.params.flashDuration
          ∧ c' = ⟨c.config, some now, some now, some dark, c.rolls + 1⟩)

/-- FX_TICK of a Solid, TimedSolid or Flash writes its own colour at every `now`, of a Rainbow the converted hue;
exactly the slot given is written and no register of any context changes (42_effect_engines.md R117, R119, R120,
R123, R126; `hsv2rgb` is uninterpreted, log 20; the usage mark is the model's, log 12). -/
def Obligations.TickPaintsOneSlot : Prop :=
  ∀ (s : State) (e slot : Nat) (now : Time) (k : FxConfig) (color : Colour),
    s.HasConfig e k → slot < s.ledCount →
    (k = .solid color ∨ (∃ lifetime, k = .timedSolid color lifetime) ∨ (∃ half n, k = .flash color half n)
      ∨ (∃ ledCount index, k = .rainbow ledCount index ∧ index < ledCount ∧
          color = Config.hsv2rgb (BitVec.ofNat 8
            (((now.toNat % s.params.rainbowPeriod) * 256 / s.params.rainbowPeriod + index * 256 / ledCount) % 256))
            255 255)) →
    ∃ t, exec (.fxTick e slot now) s = .next t
      ∧ t.cb.read slot = some color ∧ (∀ a, a ≠ slot → t.cb.read a = s.cb.read a)
      ∧ t = { s with cb := t.cb, fxUsed := s.fxUsed.set e true, result := .nothing }

/-- FX_TICK of an activated Shimmer writes (level, level, level), the level at the time since activation modulo the
duration (42_effect_engines.md R130; the usage mark is the model's, log 12). -/
def Obligations.ShimmerTickPaintsItsLevel : Prop :=
  ∀ (s : State) (e slot : Nat) (now tact : Time) (c : Context) (p : ShimmerParams),
    s.fx[e]? = some c → c.config = some (.shimmer p) → c.tact = some tact → slot < s.ledCount →
    1 ≤ p.duration →
    ∃ t u level, exec (.fxTick e slot now) s = .next t
      ∧ exec (.fxShimmerLevel e (BitVec.ofNat 32 ((now - tact).toNat % p.duration))) s = .next u
      ∧ u.result = .level level
      ∧ t.cb.read slot = some ⟨level, level, level⟩ ∧ (∀ a, a ≠ slot → t.cb.read a = s.cb.read a)
      ∧ t = { s with cb := t.cb, fxUsed := s.fxUsed.set e true, result := .nothing }

/-- FX_TICK of a Sparkle: dark before the dark interval ends, bright for the pulse width after it, then a new cycle
begins at `now` with a freshly drawn dark interval and the dark colour is written (42_effect_engines.md R128; the
draw is free, log 7; the end of the pulse is compared on exact integers, log 19; the usage mark is the model's,
log 12). -/
def Obligations.SparkleTickFollowsItsCycle : Prop :=
  ∀ (s : State) (e slot : Nat) (now t0 dark : Time) (c : Context),
    s.fx[e]? = some c → c.config = some .sparkle → c.spT0 = some t0 → c.spDark = some dark → slot < s.ledCount →
    ∃ t color c', exec (.fxTick e slot now) s = .next t
      ∧ t.cb.read slot = some color ∧ (∀ a, a ≠ slot → t.cb.read a = s.cb.read a)
      ∧ t = { s with cb := t.cb, fx := s.fx.set e c', fxUsed := s.fxUsed.set e true, result := .nothing }
      ∧ ((now - t0).toNat < dark.toNat → color = s.params.sparkleDarkColor ∧ c' = c)
      ∧ (dark.toNat ≤ (now - t0).toNat → (now - t0).toNat < dark.toNat + s.params.sparklePulseWidth →
          color = s.params.sparkleColor ∧ c' = c)
      ∧ (dark.toNat + s.params.sparklePulseWidth ≤ (now - t0).toNat →
          color = s.params.sparkleDarkColor ∧ ∃ d : Time, d.toNat ≤ 5 * s.params.flashDuration
            ∧ c' = ⟨c.config, c.tact, some now, some d, c.rolls + 1⟩)

/-- FX_EXPIRED is the last column of R115's table: true for Solid, Rainbow, Sparkle and Shimmer; elapsed time at
least the lifetime for a TimedSolid; `active_half xor first_half` for a Flash. It writes no register
(42_effect_engines.md R115, R118, R119, R120, R122; the usage mark is the model's, log 12). -/
def Obligations.ExpiryFollowsTheTable : Prop :=
  ∀ (s : State) (e : Nat) (c : Context) (k : FxConfig) (now : Time) (expired : Bool),
    s.fx[e]? = some c → c.config = some k →
    (((∃ color, k = .solid color) ∨ (∃ n i, k = .rainbow n i) ∨ k = .sparkle ∨ (∃ p, k = .shimmer p))
        ∧ expired = true
      ∨ (∃ color lifetime tact, k = .timedSolid color lifetime ∧ c.tact = some tact
          ∧ expired = decide (lifetime.toNat ≤ (now - tact).toNat))
      ∨ (∃ color half n q seed, k = .flash color half n ∧ s.sq[n]? = some q ∧ q.seed = some seed
          ∧ expired = (half != decide
              ((now - seed).toNat % (2 * s.params.flashDuration) < s.params.flashDuration)))) →
    exec (.fxExpired e now) s =
      .next { s with fxUsed := s.fxUsed.set e true, result := .bit expired }

/-- A read of a register that holds no value faults: TimedSolid expiry, Flash expiry, Sparkle tick, Shimmer tick
(42_effect_engines.md R134), and the tachometer's choice before the first AG_UPDATE, outside a loud phase and with no
effect override (10_state.md R26, 43_aggregator_and_sequencer.md R162, R164); log 11. -/
def Obligations.NeverWrittenTimestampsFault : Prop :=
  (∀ (s : State) (e slot : Nat) (c : Context) (now : Time), s.fx[e]? = some c → slot < s.ledCount →
    (∀ color lifetime, c.config = some (.timedSolid color lifetime) → c.tact = none →
      exec (.fxExpired e now) s = .fault (.noValue .tact))
    ∧ (∀ color half n q, c.config = some (.flash color half n) → s.sq[n]? = some q → q.seed = none →
      exec (.fxExpired e now) s = .fault (.noValue .seed))
    ∧ (c.config = some .sparkle → c.spT0 = none → exec (.fxTick e slot now) s = .fault (.noValue .sparkle))
    ∧ (∀ p, c.config = some (.shimmer p) → c.tact = none →
      exec (.fxTick e slot now) s = .fault (.noValue .tact)))
  ∧ (∀ (s : State) (l : Nat) (q : Sequencer) (now : Time), s.sq[l]? = some q → q.indicator = .tachometer →
    s.mode = .none → s.snapInputs = none → s.MayChoose q now →
    (q.cur = none ∨ (q.cur ≠ q.context .redLoud ∧ q.cur ≠ q.context .amberLoud)) →
    exec (.sqTick l now) s = .fault (.noValue .snapInputs))

/-- FX_SEED writes one seed register and nothing else (42_effect_engines.md R124). -/
def Obligations.SeedWritesOneRegister : Prop :=
  ∀ (s : State) (n : Nat) (q : Sequencer) (now : Time), s.sq[n]? = some q →
    exec (.fxSeed n now) s =
      .next { s with sq := s.sq.set n { q with seed := some now }, result := .nothing }

/-- FX_FLASH_PHASE returns whether the time since the seed, modulo 2 × FLASH_DURATION, is below FLASH_DURATION, and
writes nothing (42_effect_engines.md R121). -/
def Obligations.FlashPhaseIsTheSquareWave : Prop :=
  ∀ (s : State) (now seed : Time), 1 ≤ s.params.flashDuration →
    ∀ first : Bool, (first = true ↔
        (now - seed).toNat % (2 * s.params.flashDuration) < s.params.flashDuration) →
      exec (.fxFlashPhase now seed) s = .next { s with result := .bit first }

/-- Over any interval of `n` full Flash periods, wherever it starts, FX_FLASH_PHASE is true on exactly `n ×
FLASH_DURATION` milliseconds, half of them (42_effect_engines.md R131; the interval does not cross the wrap of
the 32-bit time, R121's corner case). -/
def Obligations.FlashHalvesBalance : Prop :=
  ∀ (s : State) (start seed : Time) (n : Nat), 1 ≤ s.params.flashDuration →
    (start - seed).toNat + n * (2 * s.params.flashDuration) ≤ 2 ^ 32 →
    ((List.range (n * (2 * s.params.flashDuration))).filter fun i =>
      match exec (.fxFlashPhase (start + BitVec.ofNat 32 i) seed) s with
      | .next t => t.result == .bit true
      | .fault _ => false
      | .refused _ => false).length = n * s.params.flashDuration

/-- FX_HUE returns R125's hue for `index < led_count` and writes nothing; an index at or above `led_count` is refused
(42_effect_engines.md R125, 92_eei_decisions.md D8; log 8). -/
def Obligations.HueFollowsItsFormula : Prop :=
  ∀ (s : State) (now : Time) (index ledCount : Nat), 1 ≤ s.params.rainbowPeriod →
    (index < ledCount → ∃ hue : Byte, exec (.fxHue now index ledCount) s = .next { s with result := .hue hue }
      ∧ hue.toNat = ((now.toNat % s.params.rainbowPeriod) * 256 / s.params.rainbowPeriod
          + index * 256 / ledCount) % 256)
    ∧ (ledCount ≤ index → exec (.fxHue now index ledCount) s = .refused (.opFault .hueIndex))

/-- The hue makes one full turn in RAINBOW_PERIOD, and an LED's index adds the fraction `index / led_count` of a turn
to the hue of index 0 (42_effect_engines.md R125; `now + RAINBOW_PERIOD` does not wrap). -/
def Obligations.HueTurnsAndTravels : Prop :=
  ∀ (s : State) (now : Time) (index ledCount : Nat), 1 ≤ s.params.rainbowPeriod → index < ledCount →
    now.toNat + s.params.rainbowPeriod < 2 ^ 32 →
    exec (.fxHue (now + BitVec.ofNat 32 s.params.rainbowPeriod) index ledCount) s
      = exec (.fxHue now index ledCount) s
    ∧ ∃ h h0 : Byte, exec (.fxHue now index ledCount) s = .next { s with result := .hue h }
      ∧ exec (.fxHue now 0 ledCount) s = .next { s with result := .hue h0 }
      ∧ h = h0 + BitVec.ofNat 8 (index * 256 / ledCount) ∧ index * 256 / ledCount < 256

/-- FX_SHIMMER_LEVEL returns the floor of R129's brightness clamped to 0 .. 255 for a Shimmer and `t < duration`, and
writes no register; a time at or above the duration and a context of another kind are refused (42_effect_engines.md
R129, 92_eei_decisions.md D8; log 9; the usage mark is the model's, log 12). -/
def Obligations.ShimmerLevelFollowsItsFormula : Prop :=
  ∀ (s : State) (e : Nat) (t : Time),
    (∀ p, s.HasConfig e (.shimmer p) → t.toNat < p.duration →
      ∃ level : Byte, exec (.fxShimmerLevel e t) s =
          .next { s with fxUsed := s.fxUsed.set e true, result := .level level }
        ∧ ∀ c num dist2 q : Rat, c = p.initialOffset + p.speedFactor * (t.toNat : Rat) →
          num = p.slope * p.px - p.py + c → dist2 = (num * num) / (p.slope * p.slope + 1) →
          q = 255 - (p.distanceFactor * p.distanceFactor) * dist2 →
          (level.toNat : Int) = ⌊max 0 (min 255 q)⌋)
    ∧ (∀ p, s.HasConfig e (.shimmer p) → p.duration ≤ t.toNat →
      exec (.fxShimmerLevel e t) s = .refused (.opFault .shimmerTime))
    ∧ (∀ k, s.HasConfig e k → (∀ p, k ≠ .shimmer p) →
      exec (.fxShimmerLevel e t) s = .refused (.opFault .notShimmer))

/-- Brightness never rises with the distance to the line at a fixed time (42_effect_engines.md R132): of two Shimmers
with one distance factor the farther one is not brighter. -/
def Obligations.ShimmerFallsWithDistance : Prop :=
  ∀ (s : State) (e e' : Nat) (p p' : ShimmerParams) (t : Time),
    s.HasConfig e (.shimmer p) → s.HasConfig e' (.shimmer p') → t.toNat < p.duration → t.toNat < p'.duration →
    p.distanceFactor = p'.distanceFactor → shimmerDist2 p t.toNat ≤ shimmerDist2 p' t.toNat →
    ∃ u u' level level', exec (.fxShimmerLevel e t) s = .next u ∧ exec (.fxShimmerLevel e' t) s = .next u'
      ∧ u.result = .level level ∧ u'.result = .level level' ∧ level' ≤ level

/-- Instance numbers outside a bank, contexts never configured and slots at or above LED_COUNT are refused
(30_encoding.md R67, 60_exceptions.md R187; log 10). Which cause is named where several hold (the slot before the
context, the bank before the rest) is the model's order, log 26. -/
def Obligations.ReservedInstancesAreRefused : Prop :=
  (∀ (s : State) (d : Nat) (now : Time) (b : Bool), s.db.length ≤ d →
    exec (.dbInit d now) s = .refused (.opFault .noSuchDebouncer)
    ∧ exec (.dbProcess d now b) s = .refused (.opFault .noSuchDebouncer)
    ∧ exec (.dbForce d b) s = .refused (.opFault .noSuchDebouncer)
    ∧ exec (.dbStable d) s = .refused (.opFault .noSuchDebouncer))
  ∧ (∀ (s : State) (e slot : Nat) (now : Time) (k : FxConfig), s.fx.length ≤ e → slot < s.ledCount →
    exec (.fxConfig e k) s = .refused (.opFault .noSuchContext)
    ∧ exec (.fxActivate e now) s = .refused (.opFault .noSuchContext)
    ∧ exec (.fxTick e slot now) s = .refused (.opFault .noSuchContext)
    ∧ exec (.fxExpired e now) s = .refused (.opFault .noSuchContext)
    ∧ exec (.fxShimmerLevel e now) s = .refused (.opFault .noSuchContext))
  ∧ (∀ (s : State) (e slot : Nat) (now : Time) (c : Context), s.fx[e]? = some c → c.config = none →
    slot < s.ledCount →
    exec (.fxActivate e now) s = .refused (.opFault .unconfigured)
    ∧ exec (.fxTick e slot now) s = .refused (.opFault .unconfigured)
    ∧ exec (.fxExpired e now) s = .refused (.opFault .unconfigured)
    ∧ exec (.fxShimmerLevel e now) s = .refused (.opFault .unconfigured))
  ∧ (∀ (s : State) (e slot : Nat) (now : Time), s.ledCount ≤ slot →
    exec (.fxTick e slot now) s = .refused (.opFault .slotOutOfRange))
  ∧ (∀ (s : State) (l : Nat) (now : Time), s.sq.length ≤ l →
    exec (.fxSeed l now) s = .refused (.opFault .noSuchSeed)
    ∧ exec (.sqTick l now) s = .refused (.opFault .noSuchSequencer))

/-! ### Aggregator -/

/-- AG_UPDATE stores the seven inputs, takes FB unless it is errored, feeds signal 6 + i of the frame it then holds
to debouncer i, records the pulse at a ToHigh of CAN-scroll, advances MODE at a ToHigh of effect-scroll, and returns
the four edges; nothing else changes (43_aggregator_and_sequencer.md R151 to R154, R156). An analog level above
1023 is refused. -/
def Obligations.AggregatorUpdate : Prop :=
  (∀ (s : State) (now : Time) (i : RawInputs) (x0 x1 x2 x3 : Debouncer) (later : List Debouncer),
    s.db = x0 :: x1 :: x2 :: x3 :: later → i.fuel.toNat ≤ 1023 → i.temperature.toNat ≤ 1023 → i.oil.toNat ≤ 1023 →
    ∃ f y0 y1 y2 y3 e0 e1 e2 e3,
      f = (if s.fb.b0.getLsbD 7 = true then s.fb else s.snapFrame)
      ∧ (y0, e0) = x0.process now (f.signal 6) ∧ (y1, e1) = x1.process now (f.signal 7)
      ∧ (y2, e2) = x2.process now (f.signal 8) ∧ (y3, e3) = x3.process now (f.signal 9)
      ∧ exec (.agUpdate now i.ignition i.backlightDim i.tachWarning i.tachCritical i.fuel i.temperature i.oil) s =
        .next { s with
          snapInputs := some i
          snapFrame := f
          db := y0 :: y1 :: y2 :: y3 :: later
          dbUsed := (((s.dbUsed.set 0 true).set 1 true).set 2 true).set 3 true
          pulseStart := if e0 = .toHigh then now else s.pulseStart
          pulseArmed := if e0 = .toHigh then true else s.pulseArmed
          mode := if e2 = .toHigh then s.mode.succ else s.mode
          result := .edges e0 e1 e2 e3 })
  ∧ (∀ (s : State) (now : Time) (i : RawInputs),
    1023 < i.fuel.toNat ∨ 1023 < i.temperature.toNat ∨ 1023 < i.oil.toNat →
    exec (.agUpdate now i.ignition i.backlightDim i.tachWarning i.tachCritical i.fuel i.temperature i.oil) s =
      .refused (.opFault .analogRange))

/-- AG_PULSE_Q is true exactly when a pulse was armed and less than the pulse width has passed since its start;
AG_MODE returns MODE; both write nothing (43_aggregator_and_sequencer.md R155, R157). -/
def Obligations.PulseAndModeQueries : Prop :=
  ∀ (s : State) (now : Time),
    (∀ inPulse : Bool,
      (inPulse = true ↔ s.pulseArmed = true ∧ (now - s.pulseStart).toNat < s.params.canPulseWidth) →
      exec (.agPulseQ now) s = .next { s with result := .bit inPulse })
    ∧ exec .agMode s = .next { s with result := .mode s.mode }

/-- In a step that is no reset MODE changes only by an AG_UPDATE whose effect-scroll edge is ToHigh, and then to its
cyclic successor; and such an AG_UPDATE always advances it (43_aggregator_and_sequencer.md R156). -/
def Obligations.ModeAdvancesOnlyOnEffectScroll : Prop :=
  ∀ s t : State, (∀ rest, s.queue ≠ .powerOn :: rest) → step s = .next t →
    (t.mode ≠ s.mode → ∃ now a b c d f g h s' e0 e1 e3, fetch s = .run (.agUpdate now a b c d f g h) s'
        ∧ t.result = .edges e0 e1 .toHigh e3 ∧ t.mode.code = s.mode.code + 1)
    ∧ (∀ now a b c d f g h s' e0 e1 e3, fetch s = .run (.agUpdate now a b c d f g h) s' →
        t.result = .edges e0 e1 .toHigh e3 → t.mode.code = s.mode.code + 1)

/-! ### Sequencers -/

/-- A SimpleLED that may choose, under no effect override, shows its ON colour when its signal says so and its OFF
colour otherwise. The chosen context, chosen again while current, is not re-activated (its `tact` stays), and
otherwise it alone is activated at `now` (43_aggregator_and_sequencer.md R158, R160, R161; a set by roles is
log 18). -/
def Obligations.SimpleLedFollowsItsSignal : Prop :=
  ∀ (s : State) (l eOn eOff e : Nat) (q : Sequencer) (now : Time) (cOn cOff : Colour) (lit : Bool),
    s.sq[l]? = some q → s.mode = .none → q.slot < s.ledCount →
    (q.indicator = .acOn ∧ lit = s.snapFrame.signal 2
      ∨ q.indicator = .heatedRearWindow ∧ lit = s.snapFrame.signal 3
      ∨ q.indicator = .hazard ∧ lit = !s.snapFrame.signal 4
      ∨ q.indicator = .rearFogger ∧ lit = s.snapFrame.signal 5
      ∨ q.indicator = .plain ∧ lit = true) →
    q.context .on = some eOn → q.context .off = some eOff →
    s.HasConfig eOn (.solid cOn) → s.HasConfig eOff (.solid cOff) → s.MayChoose q now →
    e = (if lit then eOn else eOff) →
    ∃ t, exec (.sqTick l now) s = .next t
      ∧ t.sq = s.sq.set l { q with cur := some e }
      ∧ (q.cur = some e → t.fx = s.fx)
      ∧ (q.cur ≠ some e → ∀ c, s.fx[e]? = some c → t.fx = s.fx.set e { c with tact := some now })
      ∧ t.cb.read q.slot = some (if lit then cOn else cOff)
      ∧ (∀ a, a ≠ q.slot → t.cb.read a = s.cb.read a)

/-- While the current context has not expired a SQ_TICK is the FX_TICK of that context into the sequencer's slot, whatever
the inputs and the mode say; a loud Flash is held for its half-period and then followed by its own colour's
quiet context, activated at `now`, the seed kept (43_aggregator_and_sequencer.md R158, R162, R163, R209;
42_effect_engines.md R122; where one context is RL and AL it counts as RL, R162's order). -/
def Obligations.HeldUntilExpiredThenOwnQuiet : Prop :=
  (∀ (s : State) (l e : Nat) (q : Sequencer) (now : Time) (u : State),
    s.sq[l]? = some q → q.cur = some e →
    exec (.fxExpired e now) s = .next u → u.result = .bit false →
    exec (.sqTick l now) s = exec (.fxTick e q.slot now) s)
  ∧ (∀ (s : State) (l eLoud eQuiet : Nat) (q : Sequencer) (now seed : Time) (cLoud cQuiet : Colour)
      (loud quiet : Role),
    s.sq[l]? = some q → s.mode = .none → q.slot < s.ledCount →
    (q.indicator = .boost ∨ q.indicator = .tachometer) →
    (loud = .redLoud ∧ quiet = .redQuiet
      ∨ loud = .amberLoud ∧ quiet = .amberQuiet ∧ q.context .redLoud ≠ some eLoud) →
    q.context loud = some eLoud → q.context quiet = some eQuiet → q.cur = some eLoud → q.seed = some seed →
    s.HasConfig eLoud (.flash cLoud true l) → s.HasConfig eQuiet (.flash cQuiet false l) →
    ∃ t, exec (.sqTick l now) s = .next t ∧ (∀ a, a ≠ q.slot → t.cb.read a = s.cb.read a) ∧
      (((now - seed).toNat % (2 * s.params.flashDuration) < s.params.flashDuration →
        t.sq = s.sq ∧ t.fx = s.fx ∧ t.cb.read q.slot = some cLoud)
      ∧ (s.params.flashDuration ≤ (now - seed).toNat % (2 * s.params.flashDuration) →
        t.sq = s.sq.set l { q with cur := some eQuiet } ∧ t.cb.read q.slot = some cQuiet
        ∧ ∀ c, s.fx[eQuiet]? = some c → t.fx = s.fx.set eQuiet { c with tact := some now })))

/-- A MultiBlinkingLED that may choose and shows no loud context takes critical before warning before white; entering a
loud context from a non-blink state (null, white, an effect) re-arms the seed at `now`, from a quiet one keeps
it. The chosen context, chosen again while current, is not re-activated (its `tact` stays), and otherwise it alone
is activated at `now`. Boost reads signals 1 and 0, the tachometer the direct inputs
(43_aggregator_and_sequencer.md R158, R162 to R164; a set by roles is log 18). -/
def Obligations.MultiBlinkingChoosesByPriority : Prop :=
  ∀ (s : State) (l e : Nat) (q : Sequencer) (now : Time) (color : Colour)
    (critical warning : Bool) (nxt : Role),
    s.sq[l]? = some q → s.mode = .none → q.slot < s.ledCount →
    (q.indicator = .boost ∧ critical = s.snapFrame.signal 1 ∧ warning = s.snapFrame.signal 0
      ∨ ∃ i, s.snapInputs = some i ∧ q.indicator = .tachometer ∧ critical = i.tachCritical
        ∧ warning = i.tachWarning) →
    nxt = (if critical then .redLoud else if warning then .amberLoud else .white) →
    q.context nxt = some e →
    (nxt = .white ∧ s.HasConfig e (.solid color) ∨ nxt ≠ .white ∧ s.HasConfig e (.flash color true l)) →
    s.MayChoose q now →
    (q.cur = none ∨ (q.cur ≠ q.context .redLoud ∧ q.cur ≠ q.context .amberLoud)) →
    ∃ t, exec (.sqTick l now) s = .next t
      ∧ t.sq = s.sq.set l { q with
          cur := some e
          seed := if (q.context .redLoud = some e ∨ q.context .amberLoud = some e)
              ∧ (q.cur = none ∨ (q.cur ≠ q.context .redQuiet ∧ q.cur ≠ q.context .amberQuiet))
            then some now else q.seed }
      ∧ (q.cur = some e → t.fx = s.fx)
      ∧ (q.cur ≠ some e → ∀ c, s.fx[e]? = some c → t.fx = s.fx.set e { c with tact := some now })
      ∧ t.cb.read q.slot = some color ∧ (∀ a, a ≠ q.slot → t.cb.read a = s.cb.read a)

/-- An effect mode forces the sequencer's own effect context `e` at a tick at which it may choose. Where `e` is not
current, SQ_TICK is FX_ACTIVATE of `e`, the reference set to `e`, the seed kept, and FX_TICK of `e` into the
sequencer's slot, and it completes; where `e` is current already it is not re-activated, SQ_TICK is FX_TICK of `e`
alone, and its `tact` stays (43_aggregator_and_sequencer.md R158, R159, R163, R209; `e` is not RL or AL, which are
Flash contexts, R162; references compare contexts, log 18). -/
def Obligations.EffectModeOverridesTheLocalChoice : Prop :=
  ∀ (s : State) (l e : Nat) (q : Sequencer) (now : Time) (k : FxConfig) (nxt : Role),
    s.sq[l]? = some q → q.slot < s.ledCount →
    (s.mode = .rainbow ∧ nxt = .rainbow ∧ (∃ n j, k = .rainbow n j)
      ∨ s.mode = .sparkle ∧ nxt = .sparkle ∧ k = .sparkle
      ∨ s.mode = .shimmer ∧ nxt = .shimmer ∧ ∃ p, k = .shimmer p) →
    q.context nxt = some e → q.context .redLoud ≠ some e → q.context .amberLoud ≠ some e →
    s.HasConfig e k → k.legal = true → s.MayChoose q now →
    (q.cur ≠ some e → ∃ u t c color,
      exec (.fxActivate e now) s = .next u
      ∧ exec (.fxTick e q.slot now) { u with sq := s.sq.set l { q with cur := some e } } = .next t
      ∧ exec (.sqTick l now) s = .next t
      ∧ t.sq = s.sq.set l { q with cur := some e }
      ∧ t.fx[e]? = some c ∧ c.tact = some now
      ∧ t.cb = s.cb.write q.slot color)
    ∧ (q.cur = some e →
      exec (.sqTick l now) s = exec (.fxTick e q.slot now) s
      ∧ ∀ t, exec (.sqTick l now) s = .next t → t.sq = s.sq
        ∧ ∀ c, s.fx[e]? = some c → ∃ c', t.fx[e]? = some c' ∧ c'.tact = c.tact)

/-- A MultiBlinkingLED never goes directly from one colour's loud phase to the other's (43_aggregator_and_sequencer.md
R162, with no override), and under any mode leaves a loud phase only for its own quiet one or an effect. A context
that is RL and AL counts as RL (R162's order); the last clause is for a set that gives these roles contexts of their
own. -/
def Obligations.NoDirectChangeBetweenLoudColours : Prop :=
  ∀ (s t : State) (l e : Nat) (q q' : Sequencer) (now : Time), exec (.sqTick l now) s = .next t →
    s.sq[l]? = some q → t.sq[l]? = some q' → q.indicator.isMulti = true → q.cur = some e →
    (q.context .redLoud = some e →
      q'.cur = some e ∨ q'.cur = q.context .redQuiet
        ∨ (s.mode ≠ .none ∧ ∃ r ∈ [Role.rainbow, .sparkle, .shimmer], q'.cur = q.context r))
    ∧ (q.context .redLoud ≠ some e → q.context .amberLoud = some e →
      q'.cur = some e ∨ q'.cur = q.context .amberQuiet
        ∨ (s.mode ≠ .none ∧ ∃ r ∈ [Role.rainbow, .sparkle, .shimmer], q'.cur = q.context r))
    ∧ (q.context .redLoud ≠ q.context .amberLoud →
      (∀ r ∈ [Role.redQuiet, .amberQuiet, .rainbow, .sparkle, .shimmer],
        q.context r ≠ q.context .redLoud ∧ q.context r ≠ q.context .amberLoud) →
      (q.context .redLoud = some e → q'.cur ≠ q.context .amberLoud)
      ∧ (q.context .amberLoud = some e → q'.cur ≠ q.context .redLoud))

/-- A SQ_TICK writes its own slot of CB and no other, its own sequencer's registers and no other's, its current context
and contexts of its own set and no others, and nothing else of the block (43_aggregator_and_sequencer.md R167,
10_state.md R25). -/
def Obligations.SequencerStaysInItsOwnWindow : Prop :=
  ∀ (s t : State) (l : Nat) (q : Sequencer) (now : Time), exec (.sqTick l now) s = .next t → s.sq[l]? = some q →
    (∀ a, a ≠ q.slot → t.cb.read a = s.cb.read a)
    ∧ (∀ l', l' ≠ l → t.sq[l']? = s.sq[l']?)
    ∧ (∃ q', t.sq[l]? = some q' ∧ q' = { q with cur := q'.cur, seed := q'.seed })
    ∧ (∀ e, q.cur ≠ some e → (∀ r, q.context r ≠ some e) → t.fx[e]? = s.fx[e]? ∧ t.fxInUse e = s.fxInUse e)
    ∧ t = { s with cb := t.cb, sq := t.sq, fx := t.fx, fxUsed := t.fxUsed, fatal := t.fatal, result := t.result }

/-- A choice that is no context of the sequencer's set, at a tick at which the sequencer may choose (null, or its current
context expired), sets FATAL and writes neither the reference nor CB (43_aggregator_and_sequencer.md R158,
60_exceptions.md R186; log 13). -/
def Obligations.ChoiceOutsideTheSetIsFatal : Prop :=
  ∀ (s : State) (l : Nat) (q : Sequencer) (now : Time) (nxt : Role), s.sq[l]? = some q → s.MayChoose q now →
    chooseNext s q = .ok nxt → q.context nxt = none →
    exec (.sqTick l now) s = .next { s with fatal := true }
end

