-- ==== Sys2Proof/Laws/State.lean ====
section
/-! SUPPORT. What each register write does to each field of State: one lemma per field per write. -/

namespace Sys2Proof.Machine.State

variable (s : State)

/-! ### ret -/

@[simp] theorem ret_params (r : Result) : (s.ret r).params = s.params := rfl
@[simp] theorem ret_fb (r : Result) : (s.ret r).fb = s.fb := rfl
@[simp] theorem ret_fbDraws (r : Result) : (s.ret r).fbDraws = s.fbDraws := rfl
@[simp] theorem ret_rx (r : Result) : (s.ret r).rx = s.rx := rfl
@[simp] theorem ret_rxDraws (r : Result) : (s.ret r).rxDraws = s.rxDraws := rfl
@[simp] theorem ret_tx (r : Result) : (s.ret r).tx = s.tx := rfl
@[simp] theorem ret_cb (r : Result) : (s.ret r).cb = s.cb := rfl
@[simp] theorem ret_db (r : Result) : (s.ret r).db = s.db := rfl
@[simp] theorem ret_dbUsed (r : Result) : (s.ret r).dbUsed = s.dbUsed := rfl
@[simp] theorem ret_fx (r : Result) : (s.ret r).fx = s.fx := rfl
@[simp] theorem ret_fxUsed (r : Result) : (s.ret r).fxUsed = s.fxUsed := rfl
@[simp] theorem ret_snapInputs (r : Result) : (s.ret r).snapInputs = s.snapInputs := rfl
@[simp] theorem ret_snapFrame (r : Result) : (s.ret r).snapFrame = s.snapFrame := rfl
@[simp] theorem ret_mode (r : Result) : (s.ret r).mode = s.mode := rfl
@[simp] theorem ret_pulseStart (r : Result) : (s.ret r).pulseStart = s.pulseStart := rfl
@[simp] theorem ret_pulseArmed (r : Result) : (s.ret r).pulseArmed = s.pulseArmed := rfl
@[simp] theorem ret_sq (r : Result) : (s.ret r).sq = s.sq := rfl
@[simp] theorem ret_fatal (r : Result) : (s.ret r).fatal = s.fatal := rfl
@[simp] theorem ret_result (r : Result) : (s.ret r).result = r := rfl
@[simp] theorem ret_queue (r : Result) : (s.ret r).queue = s.queue := rfl

/-! ### setFb -/

@[simp] theorem setFb_params (f : Frame) : (s.setFb f).params = s.params := rfl
@[simp] theorem setFb_fb (f : Frame) : (s.setFb f).fb = f := rfl
@[simp] theorem setFb_fbDraws (f : Frame) : (s.setFb f).fbDraws = s.fbDraws := rfl
@[simp] theorem setFb_rx (f : Frame) : (s.setFb f).rx = s.rx := rfl
@[simp] theorem setFb_rxDraws (f : Frame) : (s.setFb f).rxDraws = s.rxDraws := rfl
@[simp] theorem setFb_tx (f : Frame) : (s.setFb f).tx = s.tx := rfl
@[simp] theorem setFb_cb (f : Frame) : (s.setFb f).cb = s.cb := rfl
@[simp] theorem setFb_db (f : Frame) : (s.setFb f).db = s.db := rfl
@[simp] theorem setFb_dbUsed (f : Frame) : (s.setFb f).dbUsed = s.dbUsed := rfl
@[simp] theorem setFb_fx (f : Frame) : (s.setFb f).fx = s.fx := rfl
@[simp] theorem setFb_fxUsed (f : Frame) : (s.setFb f).fxUsed = s.fxUsed := rfl
@[simp] theorem setFb_snapInputs (f : Frame) : (s.setFb f).snapInputs = s.snapInputs := rfl
@[simp] theorem setFb_snapFrame (f : Frame) : (s.setFb f).snapFrame = s.snapFrame := rfl
@[simp] theorem setFb_mode (f : Frame) : (s.setFb f).mode = s.mode := rfl
@[simp] theorem setFb_pulseStart (f : Frame) : (s.setFb f).pulseStart = s.pulseStart := rfl
@[simp] theorem setFb_pulseArmed (f : Frame) : (s.setFb f).pulseArmed = s.pulseArmed := rfl
@[simp] theorem setFb_sq (f : Frame) : (s.setFb f).sq = s.sq := rfl
@[simp] theorem setFb_fatal (f : Frame) : (s.setFb f).fatal = s.fatal := rfl
@[simp] theorem setFb_result (f : Frame) : (s.setFb f).result = s.result := rfl
@[simp] theorem setFb_queue (f : Frame) : (s.setFb f).queue = s.queue := rfl

/-! ### setRx -/

@[simp] theorem setRx_params (b : List Byte) : (s.setRx b).params = s.params := rfl
@[simp] theorem setRx_fb (b : List Byte) : (s.setRx b).fb = s.fb := rfl
@[simp] theorem setRx_fbDraws (b : List Byte) : (s.setRx b).fbDraws = s.fbDraws := rfl
@[simp] theorem setRx_rx (b : List Byte) : (s.setRx b).rx = b := rfl
@[simp] theorem setRx_rxDraws (b : List Byte) : (s.setRx b).rxDraws = s.rxDraws := rfl
@[simp] theorem setRx_tx (b : List Byte) : (s.setRx b).tx = s.tx := rfl
@[simp] theorem setRx_cb (b : List Byte) : (s.setRx b).cb = s.cb := rfl
@[simp] theorem setRx_db (b : List Byte) : (s.setRx b).db = s.db := rfl
@[simp] theorem setRx_dbUsed (b : List Byte) : (s.setRx b).dbUsed = s.dbUsed := rfl
@[simp] theorem setRx_fx (b : List Byte) : (s.setRx b).fx = s.fx := rfl
@[simp] theorem setRx_fxUsed (b : List Byte) : (s.setRx b).fxUsed = s.fxUsed := rfl
@[simp] theorem setRx_snapInputs (b : List Byte) : (s.setRx b).snapInputs = s.snapInputs := rfl
@[simp] theorem setRx_snapFrame (b : List Byte) : (s.setRx b).snapFrame = s.snapFrame := rfl
@[simp] theorem setRx_mode (b : List Byte) : (s.setRx b).mode = s.mode := rfl
@[simp] theorem setRx_pulseStart (b : List Byte) : (s.setRx b).pulseStart = s.pulseStart := rfl
@[simp] theorem setRx_pulseArmed (b : List Byte) : (s.setRx b).pulseArmed = s.pulseArmed := rfl
@[simp] theorem setRx_sq (b : List Byte) : (s.setRx b).sq = s.sq := rfl
@[simp] theorem setRx_fatal (b : List Byte) : (s.setRx b).fatal = s.fatal := rfl
@[simp] theorem setRx_result (b : List Byte) : (s.setRx b).result = s.result := rfl
@[simp] theorem setRx_queue (b : List Byte) : (s.setRx b).queue = s.queue := rfl

/-! ### setTx -/

@[simp] theorem setTx_params (ts : List Transaction) : (s.setTx ts).params = s.params := rfl
@[simp] theorem setTx_fb (ts : List Transaction) : (s.setTx ts).fb = s.fb := rfl
@[simp] theorem setTx_fbDraws (ts : List Transaction) : (s.setTx ts).fbDraws = s.fbDraws := rfl
@[simp] theorem setTx_rx (ts : List Transaction) : (s.setTx ts).rx = s.rx := rfl
@[simp] theorem setTx_rxDraws (ts : List Transaction) : (s.setTx ts).rxDraws = s.rxDraws := rfl
@[simp] theorem setTx_tx (ts : List Transaction) : (s.setTx ts).tx = ts := rfl
@[simp] theorem setTx_cb (ts : List Transaction) : (s.setTx ts).cb = s.cb := rfl
@[simp] theorem setTx_db (ts : List Transaction) : (s.setTx ts).db = s.db := rfl
@[simp] theorem setTx_dbUsed (ts : List Transaction) : (s.setTx ts).dbUsed = s.dbUsed := rfl
@[simp] theorem setTx_fx (ts : List Transaction) : (s.setTx ts).fx = s.fx := rfl
@[simp] theorem setTx_fxUsed (ts : List Transaction) : (s.setTx ts).fxUsed = s.fxUsed := rfl
@[simp] theorem setTx_snapInputs (ts : List Transaction) : (s.setTx ts).snapInputs = s.snapInputs := rfl
@[simp] theorem setTx_snapFrame (ts : List Transaction) : (s.setTx ts).snapFrame = s.snapFrame := rfl
@[simp] theorem setTx_mode (ts : List Transaction) : (s.setTx ts).mode = s.mode := rfl
@[simp] theorem setTx_pulseStart (ts : List Transaction) : (s.setTx ts).pulseStart = s.pulseStart := rfl
@[simp] theorem setTx_pulseArmed (ts : List Transaction) : (s.setTx ts).pulseArmed = s.pulseArmed := rfl
@[simp] theorem setTx_sq (ts : List Transaction) : (s.setTx ts).sq = s.sq := rfl
@[simp] theorem setTx_fatal (ts : List Transaction) : (s.setTx ts).fatal = s.fatal := rfl
@[simp] theorem setTx_result (ts : List Transaction) : (s.setTx ts).result = s.result := rfl
@[simp] theorem setTx_queue (ts : List Transaction) : (s.setTx ts).queue = s.queue := rfl

/-! ### setCb -/

@[simp] theorem setCb_params (m : Memory) : (s.setCb m).params = s.params := rfl
@[simp] theorem setCb_fb (m : Memory) : (s.setCb m).fb = s.fb := rfl
@[simp] theorem setCb_fbDraws (m : Memory) : (s.setCb m).fbDraws = s.fbDraws := rfl
@[simp] theorem setCb_rx (m : Memory) : (s.setCb m).rx = s.rx := rfl
@[simp] theorem setCb_rxDraws (m : Memory) : (s.setCb m).rxDraws = s.rxDraws := rfl
@[simp] theorem setCb_tx (m : Memory) : (s.setCb m).tx = s.tx := rfl
@[simp] theorem setCb_cb (m : Memory) : (s.setCb m).cb = m := rfl
@[simp] theorem setCb_db (m : Memory) : (s.setCb m).db = s.db := rfl
@[simp] theorem setCb_dbUsed (m : Memory) : (s.setCb m).dbUsed = s.dbUsed := rfl
@[simp] theorem setCb_fx (m : Memory) : (s.setCb m).fx = s.fx := rfl
@[simp] theorem setCb_fxUsed (m : Memory) : (s.setCb m).fxUsed = s.fxUsed := rfl
@[simp] theorem setCb_snapInputs (m : Memory) : (s.setCb m).snapInputs = s.snapInputs := rfl
@[simp] theorem setCb_snapFrame (m : Memory) : (s.setCb m).snapFrame = s.snapFrame := rfl
@[simp] theorem setCb_mode (m : Memory) : (s.setCb m).mode = s.mode := rfl
@[simp] theorem setCb_pulseStart (m : Memory) : (s.setCb m).pulseStart = s.pulseStart := rfl
@[simp] theorem setCb_pulseArmed (m : Memory) : (s.setCb m).pulseArmed = s.pulseArmed := rfl
@[simp] theorem setCb_sq (m : Memory) : (s.setCb m).sq = s.sq := rfl
@[simp] theorem setCb_fatal (m : Memory) : (s.setCb m).fatal = s.fatal := rfl
@[simp] theorem setCb_result (m : Memory) : (s.setCb m).result = s.result := rfl
@[simp] theorem setCb_queue (m : Memory) : (s.setCb m).queue = s.queue := rfl

/-! ### setDb -/

@[simp] theorem setDb_params (d : Nat) (x : Debouncer) : (s.setDb d x).params = s.params := rfl
@[simp] theorem setDb_fb (d : Nat) (x : Debouncer) : (s.setDb d x).fb = s.fb := rfl
@[simp] theorem setDb_fbDraws (d : Nat) (x : Debouncer) : (s.setDb d x).fbDraws = s.fbDraws := rfl
@[simp] theorem setDb_rx (d : Nat) (x : Debouncer) : (s.setDb d x).rx = s.rx := rfl
@[simp] theorem setDb_rxDraws (d : Nat) (x : Debouncer) : (s.setDb d x).rxDraws = s.rxDraws := rfl
@[simp] theorem setDb_tx (d : Nat) (x : Debouncer) : (s.setDb d x).tx = s.tx := rfl
@[simp] theorem setDb_cb (d : Nat) (x : Debouncer) : (s.setDb d x).cb = s.cb := rfl
@[simp] theorem setDb_db (d : Nat) (x : Debouncer) : (s.setDb d x).db = s.db.set d x := rfl
@[simp] theorem setDb_dbUsed (d : Nat) (x : Debouncer) : (s.setDb d x).dbUsed = s.dbUsed := rfl
@[simp] theorem setDb_fx (d : Nat) (x : Debouncer) : (s.setDb d x).fx = s.fx := rfl
@[simp] theorem setDb_fxUsed (d : Nat) (x : Debouncer) : (s.setDb d x).fxUsed = s.fxUsed := rfl
@[simp] theorem setDb_snapInputs (d : Nat) (x : Debouncer) : (s.setDb d x).snapInputs = s.snapInputs := rfl
@[simp] theorem setDb_snapFrame (d : Nat) (x : Debouncer) : (s.setDb d x).snapFrame = s.snapFrame := rfl
@[simp] theorem setDb_mode (d : Nat) (x : Debouncer) : (s.setDb d x).mode = s.mode := rfl
@[simp] theorem setDb_pulseStart (d : Nat) (x : Debouncer) : (s.setDb d x).pulseStart = s.pulseStart := rfl
@[simp] theorem setDb_pulseArmed (d : Nat) (x : Debouncer) : (s.setDb d x).pulseArmed = s.pulseArmed := rfl
@[simp] theorem setDb_sq (d : Nat) (x : Debouncer) : (s.setDb d x).sq = s.sq := rfl
@[simp] theorem setDb_fatal (d : Nat) (x : Debouncer) : (s.setDb d x).fatal = s.fatal := rfl
@[simp] theorem setDb_result (d : Nat) (x : Debouncer) : (s.setDb d x).result = s.result := rfl
@[simp] theorem setDb_queue (d : Nat) (x : Debouncer) : (s.setDb d x).queue = s.queue := rfl

/-! ### useDb -/

@[simp] theorem useDb_params (d : Nat) : (s.useDb d).params = s.params := rfl
@[simp] theorem useDb_fb (d : Nat) : (s.useDb d).fb = s.fb := rfl
@[simp] theorem useDb_fbDraws (d : Nat) : (s.useDb d).fbDraws = s.fbDraws := rfl
@[simp] theorem useDb_rx (d : Nat) : (s.useDb d).rx = s.rx := rfl
@[simp] theorem useDb_rxDraws (d : Nat) : (s.useDb d).rxDraws = s.rxDraws := rfl
@[simp] theorem useDb_tx (d : Nat) : (s.useDb d).tx = s.tx := rfl
@[simp] theorem useDb_cb (d : Nat) : (s.useDb d).cb = s.cb := rfl
@[simp] theorem useDb_db (d : Nat) : (s.useDb d).db = s.db := rfl
@[simp] theorem useDb_dbUsed (d : Nat) : (s.useDb d).dbUsed = s.dbUsed.set d true := rfl
@[simp] theorem useDb_fx (d : Nat) : (s.useDb d).fx = s.fx := rfl
@[simp] theorem useDb_fxUsed (d : Nat) : (s.useDb d).fxUsed = s.fxUsed := rfl
@[simp] theorem useDb_snapInputs (d : Nat) : (s.useDb d).snapInputs = s.snapInputs := rfl
@[simp] theorem useDb_snapFrame (d : Nat) : (s.useDb d).snapFrame = s.snapFrame := rfl
@[simp] theorem useDb_mode (d : Nat) : (s.useDb d).mode = s.mode := rfl
@[simp] theorem useDb_pulseStart (d : Nat) : (s.useDb d).pulseStart = s.pulseStart := rfl
@[simp] theorem useDb_pulseArmed (d : Nat) : (s.useDb d).pulseArmed = s.pulseArmed := rfl
@[simp] theorem useDb_sq (d : Nat) : (s.useDb d).sq = s.sq := rfl
@[simp] theorem useDb_fatal (d : Nat) : (s.useDb d).fatal = s.fatal := rfl
@[simp] theorem useDb_result (d : Nat) : (s.useDb d).result = s.result := rfl
@[simp] theorem useDb_queue (d : Nat) : (s.useDb d).queue = s.queue := rfl

/-! ### setFx -/

@[simp] theorem setFx_params (e : Nat) (c : Context) : (s.setFx e c).params = s.params := rfl
@[simp] theorem setFx_fb (e : Nat) (c : Context) : (s.setFx e c).fb = s.fb := rfl
@[simp] theorem setFx_fbDraws (e : Nat) (c : Context) : (s.setFx e c).fbDraws = s.fbDraws := rfl
@[simp] theorem setFx_rx (e : Nat) (c : Context) : (s.setFx e c).rx = s.rx := rfl
@[simp] theorem setFx_rxDraws (e : Nat) (c : Context) : (s.setFx e c).rxDraws = s.rxDraws := rfl
@[simp] theorem setFx_tx (e : Nat) (c : Context) : (s.setFx e c).tx = s.tx := rfl
@[simp] theorem setFx_cb (e : Nat) (c : Context) : (s.setFx e c).cb = s.cb := rfl
@[simp] theorem setFx_db (e : Nat) (c : Context) : (s.setFx e c).db = s.db := rfl
@[simp] theorem setFx_dbUsed (e : Nat) (c : Context) : (s.setFx e c).dbUsed = s.dbUsed := rfl
@[simp] theorem setFx_fx (e : Nat) (c : Context) : (s.setFx e c).fx = s.fx.set e c := rfl
@[simp] theorem setFx_fxUsed (e : Nat) (c : Context) : (s.setFx e c).fxUsed = s.fxUsed := rfl
@[simp] theorem setFx_snapInputs (e : Nat) (c : Context) : (s.setFx e c).snapInputs = s.snapInputs := rfl
@[simp] theorem setFx_snapFrame (e : Nat) (c : Context) : (s.setFx e c).snapFrame = s.snapFrame := rfl
@[simp] theorem setFx_mode (e : Nat) (c : Context) : (s.setFx e c).mode = s.mode := rfl
@[simp] theorem setFx_pulseStart (e : Nat) (c : Context) : (s.setFx e c).pulseStart = s.pulseStart := rfl
@[simp] theorem setFx_pulseArmed (e : Nat) (c : Context) : (s.setFx e c).pulseArmed = s.pulseArmed := rfl
@[simp] theorem setFx_sq (e : Nat) (c : Context) : (s.setFx e c).sq = s.sq := rfl
@[simp] theorem setFx_fatal (e : Nat) (c : Context) : (s.setFx e c).fatal = s.fatal := rfl
@[simp] theorem setFx_result (e : Nat) (c : Context) : (s.setFx e c).result = s.result := rfl
@[simp] theorem setFx_queue (e : Nat) (c : Context) : (s.setFx e c).queue = s.queue := rfl

/-! ### useFx -/

@[simp] theorem useFx_params (e : Nat) : (s.useFx e).params = s.params := rfl
@[simp] theorem useFx_fb (e : Nat) : (s.useFx e).fb = s.fb := rfl
@[simp] theorem useFx_fbDraws (e : Nat) : (s.useFx e).fbDraws = s.fbDraws := rfl
@[simp] theorem useFx_rx (e : Nat) : (s.useFx e).rx = s.rx := rfl
@[simp] theorem useFx_rxDraws (e : Nat) : (s.useFx e).rxDraws = s.rxDraws := rfl
@[simp] theorem useFx_tx (e : Nat) : (s.useFx e).tx = s.tx := rfl
@[simp] theorem useFx_cb (e : Nat) : (s.useFx e).cb = s.cb := rfl
@[simp] theorem useFx_db (e : Nat) : (s.useFx e).db = s.db := rfl
@[simp] theorem useFx_dbUsed (e : Nat) : (s.useFx e).dbUsed = s.dbUsed := rfl
@[simp] theorem useFx_fx (e : Nat) : (s.useFx e).fx = s.fx := rfl
@[simp] theorem useFx_fxUsed (e : Nat) : (s.useFx e).fxUsed = s.fxUsed.set e true := rfl
@[simp] theorem useFx_snapInputs (e : Nat) : (s.useFx e).snapInputs = s.snapInputs := rfl
@[simp] theorem useFx_snapFrame (e : Nat) : (s.useFx e).snapFrame = s.snapFrame := rfl
@[simp] theorem useFx_mode (e : Nat) : (s.useFx e).mode = s.mode := rfl
@[simp] theorem useFx_pulseStart (e : Nat) : (s.useFx e).pulseStart = s.pulseStart := rfl
@[simp] theorem useFx_pulseArmed (e : Nat) : (s.useFx e).pulseArmed = s.pulseArmed := rfl
@[simp] theorem useFx_sq (e : Nat) : (s.useFx e).sq = s.sq := rfl
@[simp] theorem useFx_fatal (e : Nat) : (s.useFx e).fatal = s.fatal := rfl
@[simp] theorem useFx_result (e : Nat) : (s.useFx e).result = s.result := rfl
@[simp] theorem useFx_queue (e : Nat) : (s.useFx e).queue = s.queue := rfl

/-! ### setSq -/

@[simp] theorem setSq_params (l : Nat) (q : Sequencer) : (s.setSq l q).params = s.params := rfl
@[simp] theorem setSq_fb (l : Nat) (q : Sequencer) : (s.setSq l q).fb = s.fb := rfl
@[simp] theorem setSq_fbDraws (l : Nat) (q : Sequencer) : (s.setSq l q).fbDraws = s.fbDraws := rfl
@[simp] theorem setSq_rx (l : Nat) (q : Sequencer) : (s.setSq l q).rx = s.rx := rfl
@[simp] theorem setSq_rxDraws (l : Nat) (q : Sequencer) : (s.setSq l q).rxDraws = s.rxDraws := rfl
@[simp] theorem setSq_tx (l : Nat) (q : Sequencer) : (s.setSq l q).tx = s.tx := rfl
@[simp] theorem setSq_cb (l : Nat) (q : Sequencer) : (s.setSq l q).cb = s.cb := rfl
@[simp] theorem setSq_db (l : Nat) (q : Sequencer) : (s.setSq l q).db = s.db := rfl
@[simp] theorem setSq_dbUsed (l : Nat) (q : Sequencer) : (s.setSq l q).dbUsed = s.dbUsed := rfl
@[simp] theorem setSq_fx (l : Nat) (q : Sequencer) : (s.setSq l q).fx = s.fx := rfl
@[simp] theorem setSq_fxUsed (l : Nat) (q : Sequencer) : (s.setSq l q).fxUsed = s.fxUsed := rfl
@[simp] theorem setSq_snapInputs (l : Nat) (q : Sequencer) : (s.setSq l q).snapInputs = s.snapInputs := rfl
@[simp] theorem setSq_snapFrame (l : Nat) (q : Sequencer) : (s.setSq l q).snapFrame = s.snapFrame := rfl
@[simp] theorem setSq_mode (l : Nat) (q : Sequencer) : (s.setSq l q).mode = s.mode := rfl
@[simp] theorem setSq_pulseStart (l : Nat) (q : Sequencer) : (s.setSq l q).pulseStart = s.pulseStart := rfl
@[simp] theorem setSq_pulseArmed (l : Nat) (q : Sequencer) : (s.setSq l q).pulseArmed = s.pulseArmed := rfl
@[simp] theorem setSq_sq (l : Nat) (q : Sequencer) : (s.setSq l q).sq = s.sq.set l q := rfl
@[simp] theorem setSq_fatal (l : Nat) (q : Sequencer) : (s.setSq l q).fatal = s.fatal := rfl
@[simp] theorem setSq_result (l : Nat) (q : Sequencer) : (s.setSq l q).result = s.result := rfl
@[simp] theorem setSq_queue (l : Nat) (q : Sequencer) : (s.setSq l q).queue = s.queue := rfl

/-! ### setInputs -/

@[simp] theorem setInputs_params (i : RawInputs) : (s.setInputs i).params = s.params := rfl
@[simp] theorem setInputs_fb (i : RawInputs) : (s.setInputs i).fb = s.fb := rfl
@[simp] theorem setInputs_fbDraws (i : RawInputs) : (s.setInputs i).fbDraws = s.fbDraws := rfl
@[simp] theorem setInputs_rx (i : RawInputs) : (s.setInputs i).rx = s.rx := rfl
@[simp] theorem setInputs_rxDraws (i : RawInputs) : (s.setInputs i).rxDraws = s.rxDraws := rfl
@[simp] theorem setInputs_tx (i : RawInputs) : (s.setInputs i).tx = s.tx := rfl
@[simp] theorem setInputs_cb (i : RawInputs) : (s.setInputs i).cb = s.cb := rfl
@[simp] theorem setInputs_db (i : RawInputs) : (s.setInputs i).db = s.db := rfl
@[simp] theorem setInputs_dbUsed (i : RawInputs) : (s.setInputs i).dbUsed = s.dbUsed := rfl
@[simp] theorem setInputs_fx (i : RawInputs) : (s.setInputs i).fx = s.fx := rfl
@[simp] theorem setInputs_fxUsed (i : RawInputs) : (s.setInputs i).fxUsed = s.fxUsed := rfl
@[simp] theorem setInputs_snapInputs (i : RawInputs) : (s.setInputs i).snapInputs = some i := rfl
@[simp] theorem setInputs_snapFrame (i : RawInputs) : (s.setInputs i).snapFrame = s.snapFrame := rfl
@[simp] theorem setInputs_mode (i : RawInputs) : (s.setInputs i).mode = s.mode := rfl
@[simp] theorem setInputs_pulseStart (i : RawInputs) : (s.setInputs i).pulseStart = s.pulseStart := rfl
@[simp] theorem setInputs_pulseArmed (i : RawInputs) : (s.setInputs i).pulseArmed = s.pulseArmed := rfl
@[simp] theorem setInputs_sq (i : RawInputs) : (s.setInputs i).sq = s.sq := rfl
@[simp] theorem setInputs_fatal (i : RawInputs) : (s.setInputs i).fatal = s.fatal := rfl
@[simp] theorem setInputs_result (i : RawInputs) : (s.setInputs i).result = s.result := rfl
@[simp] theorem setInputs_queue (i : RawInputs) : (s.setInputs i).queue = s.queue := rfl

/-! ### setSnapFrame -/

@[simp] theorem setSnapFrame_params (f : Frame) : (s.setSnapFrame f).params = s.params := rfl
@[simp] theorem setSnapFrame_fb (f : Frame) : (s.setSnapFrame f).fb = s.fb := rfl
@[simp] theorem setSnapFrame_fbDraws (f : Frame) : (s.setSnapFrame f).fbDraws = s.fbDraws := rfl
@[simp] theorem setSnapFrame_rx (f : Frame) : (s.setSnapFrame f).rx = s.rx := rfl
@[simp] theorem setSnapFrame_rxDraws (f : Frame) : (s.setSnapFrame f).rxDraws = s.rxDraws := rfl
@[simp] theorem setSnapFrame_tx (f : Frame) : (s.setSnapFrame f).tx = s.tx := rfl
@[simp] theorem setSnapFrame_cb (f : Frame) : (s.setSnapFrame f).cb = s.cb := rfl
@[simp] theorem setSnapFrame_db (f : Frame) : (s.setSnapFrame f).db = s.db := rfl
@[simp] theorem setSnapFrame_dbUsed (f : Frame) : (s.setSnapFrame f).dbUsed = s.dbUsed := rfl
@[simp] theorem setSnapFrame_fx (f : Frame) : (s.setSnapFrame f).fx = s.fx := rfl
@[simp] theorem setSnapFrame_fxUsed (f : Frame) : (s.setSnapFrame f).fxUsed = s.fxUsed := rfl
@[simp] theorem setSnapFrame_snapInputs (f : Frame) : (s.setSnapFrame f).snapInputs = s.snapInputs := rfl
@[simp] theorem setSnapFrame_snapFrame (f : Frame) : (s.setSnapFrame f).snapFrame = f := rfl
@[simp] theorem setSnapFrame_mode (f : Frame) : (s.setSnapFrame f).mode = s.mode := rfl
@[simp] theorem setSnapFrame_pulseStart (f : Frame) : (s.setSnapFrame f).pulseStart = s.pulseStart := rfl
@[simp] theorem setSnapFrame_pulseArmed (f : Frame) : (s.setSnapFrame f).pulseArmed = s.pulseArmed := rfl
@[simp] theorem setSnapFrame_sq (f : Frame) : (s.setSnapFrame f).sq = s.sq := rfl
@[simp] theorem setSnapFrame_fatal (f : Frame) : (s.setSnapFrame f).fatal = s.fatal := rfl
@[simp] theorem setSnapFrame_result (f : Frame) : (s.setSnapFrame f).result = s.result := rfl
@[simp] theorem setSnapFrame_queue (f : Frame) : (s.setSnapFrame f).queue = s.queue := rfl

/-! ### setMode -/

@[simp] theorem setMode_params (m : EffectMode) : (s.setMode m).params = s.params := rfl
@[simp] theorem setMode_fb (m : EffectMode) : (s.setMode m).fb = s.fb := rfl
@[simp] theorem setMode_fbDraws (m : EffectMode) : (s.setMode m).fbDraws = s.fbDraws := rfl
@[simp] theorem setMode_rx (m : EffectMode) : (s.setMode m).rx = s.rx := rfl
@[simp] theorem setMode_rxDraws (m : EffectMode) : (s.setMode m).rxDraws = s.rxDraws := rfl
@[simp] theorem setMode_tx (m : EffectMode) : (s.setMode m).tx = s.tx := rfl
@[simp] theorem setMode_cb (m : EffectMode) : (s.setMode m).cb = s.cb := rfl
@[simp] theorem setMode_db (m : EffectMode) : (s.setMode m).db = s.db := rfl
@[simp] theorem setMode_dbUsed (m : EffectMode) : (s.setMode m).dbUsed = s.dbUsed := rfl
@[simp] theorem setMode_fx (m : EffectMode) : (s.setMode m).fx = s.fx := rfl
@[simp] theorem setMode_fxUsed (m : EffectMode) : (s.setMode m).fxUsed = s.fxUsed := rfl
@[simp] theorem setMode_snapInputs (m : EffectMode) : (s.setMode m).snapInputs = s.snapInputs := rfl
@[simp] theorem setMode_snapFrame (m : EffectMode) : (s.setMode m).snapFrame = s.snapFrame := rfl
@[simp] theorem setMode_mode (m : EffectMode) : (s.setMode m).mode = m := rfl
@[simp] theorem setMode_pulseStart (m : EffectMode) : (s.setMode m).pulseStart = s.pulseStart := rfl
@[simp] theorem setMode_pulseArmed (m : EffectMode) : (s.setMode m).pulseArmed = s.pulseArmed := rfl
@[simp] theorem setMode_sq (m : EffectMode) : (s.setMode m).sq = s.sq := rfl
@[simp] theorem setMode_fatal (m : EffectMode) : (s.setMode m).fatal = s.fatal := rfl
@[simp] theorem setMode_result (m : EffectMode) : (s.setMode m).result = s.result := rfl
@[simp] theorem setMode_queue (m : EffectMode) : (s.setMode m).queue = s.queue := rfl

/-! ### armPulse -/

@[simp] theorem armPulse_params (now : Time) : (s.armPulse now).params = s.params := rfl
@[simp] theorem armPulse_fb (now : Time) : (s.armPulse now).fb = s.fb := rfl
@[simp] theorem armPulse_fbDraws (now : Time) : (s.armPulse now).fbDraws = s.fbDraws := rfl
@[simp] theorem armPulse_rx (now : Time) : (s.armPulse now).rx = s.rx := rfl
@[simp] theorem armPulse_rxDraws (now : Time) : (s.armPulse now).rxDraws = s.rxDraws := rfl
@[simp] theorem armPulse_tx (now : Time) : (s.armPulse now).tx = s.tx := rfl
@[simp] theorem armPulse_cb (now : Time) : (s.armPulse now).cb = s.cb := rfl
@[simp] theorem armPulse_db (now : Time) : (s.armPulse now).db = s.db := rfl
@[simp] theorem armPulse_dbUsed (now : Time) : (s.armPulse now).dbUsed = s.dbUsed := rfl
@[simp] theorem armPulse_fx (now : Time) : (s.armPulse now).fx = s.fx := rfl
@[simp] theorem armPulse_fxUsed (now : Time) : (s.armPulse now).fxUsed = s.fxUsed := rfl
@[simp] theorem armPulse_snapInputs (now : Time) : (s.armPulse now).snapInputs = s.snapInputs := rfl
@[simp] theorem armPulse_snapFrame (now : Time) : (s.armPulse now).snapFrame = s.snapFrame := rfl
@[simp] theorem armPulse_mode (now : Time) : (s.armPulse now).mode = s.mode := rfl
@[simp] theorem armPulse_pulseStart (now : Time) : (s.armPulse now).pulseStart = now := rfl
@[simp] theorem armPulse_pulseArmed (now : Time) : (s.armPulse now).pulseArmed = true := rfl
@[simp] theorem armPulse_sq (now : Time) : (s.armPulse now).sq = s.sq := rfl
@[simp] theorem armPulse_fatal (now : Time) : (s.armPulse now).fatal = s.fatal := rfl
@[simp] theorem armPulse_result (now : Time) : (s.armPulse now).result = s.result := rfl
@[simp] theorem armPulse_queue (now : Time) : (s.armPulse now).queue = s.queue := rfl

/-! ### setQueue -/

@[simp] theorem setQueue_params (q : List Input) : (s.setQueue q).params = s.params := rfl
@[simp] theorem setQueue_fb (q : List Input) : (s.setQueue q).fb = s.fb := rfl
@[simp] theorem setQueue_fbDraws (q : List Input) : (s.setQueue q).fbDraws = s.fbDraws := rfl
@[simp] theorem setQueue_rx (q : List Input) : (s.setQueue q).rx = s.rx := rfl
@[simp] theorem setQueue_rxDraws (q : List Input) : (s.setQueue q).rxDraws = s.rxDraws := rfl
@[simp] theorem setQueue_tx (q : List Input) : (s.setQueue q).tx = s.tx := rfl
@[simp] theorem setQueue_cb (q : List Input) : (s.setQueue q).cb = s.cb := rfl
@[simp] theorem setQueue_db (q : List Input) : (s.setQueue q).db = s.db := rfl
@[simp] theorem setQueue_dbUsed (q : List Input) : (s.setQueue q).dbUsed = s.dbUsed := rfl
@[simp] theorem setQueue_fx (q : List Input) : (s.setQueue q).fx = s.fx := rfl
@[simp] theorem setQueue_fxUsed (q : List Input) : (s.setQueue q).fxUsed = s.fxUsed := rfl
@[simp] theorem setQueue_snapInputs (q : List Input) : (s.setQueue q).snapInputs = s.snapInputs := rfl
@[simp] theorem setQueue_snapFrame (q : List Input) : (s.setQueue q).snapFrame = s.snapFrame := rfl
@[simp] theorem setQueue_mode (q : List Input) : (s.setQueue q).mode = s.mode := rfl
@[simp] theorem setQueue_pulseStart (q : List Input) : (s.setQueue q).pulseStart = s.pulseStart := rfl
@[simp] theorem setQueue_pulseArmed (q : List Input) : (s.setQueue q).pulseArmed = s.pulseArmed := rfl
@[simp] theorem setQueue_sq (q : List Input) : (s.setQueue q).sq = s.sq := rfl
@[simp] theorem setQueue_fatal (q : List Input) : (s.setQueue q).fatal = s.fatal := rfl
@[simp] theorem setQueue_result (q : List Input) : (s.setQueue q).result = s.result := rfl
@[simp] theorem setQueue_queue (q : List Input) : (s.setQueue q).queue = q := rfl

/-! ### markErrored -/

@[simp] theorem markErrored_params : (s.markErrored).params = s.params := rfl
@[simp] theorem markErrored_fb : (s.markErrored).fb = erroredFrame (Config.unreliableFrame s.fbDraws) := rfl
@[simp] theorem markErrored_fbDraws : (s.markErrored).fbDraws = s.fbDraws + 1 := rfl
@[simp] theorem markErrored_rx : (s.markErrored).rx = s.rx := rfl
@[simp] theorem markErrored_rxDraws : (s.markErrored).rxDraws = s.rxDraws := rfl
@[simp] theorem markErrored_tx : (s.markErrored).tx = s.tx := rfl
@[simp] theorem markErrored_cb : (s.markErrored).cb = s.cb := rfl
@[simp] theorem markErrored_db : (s.markErrored).db = s.db := rfl
@[simp] theorem markErrored_dbUsed : (s.markErrored).dbUsed = s.dbUsed := rfl
@[simp] theorem markErrored_fx : (s.markErrored).fx = s.fx := rfl
@[simp] theorem markErrored_fxUsed : (s.markErrored).fxUsed = s.fxUsed := rfl
@[simp] theorem markErrored_snapInputs : (s.markErrored).snapInputs = s.snapInputs := rfl
@[simp] theorem markErrored_snapFrame : (s.markErrored).snapFrame = s.snapFrame := rfl
@[simp] theorem markErrored_mode : (s.markErrored).mode = s.mode := rfl
@[simp] theorem markErrored_pulseStart : (s.markErrored).pulseStart = s.pulseStart := rfl
@[simp] theorem markErrored_pulseArmed : (s.markErrored).pulseArmed = s.pulseArmed := rfl
@[simp] theorem markErrored_sq : (s.markErrored).sq = s.sq := rfl
@[simp] theorem markErrored_fatal : (s.markErrored).fatal = s.fatal := rfl
@[simp] theorem markErrored_result : (s.markErrored).result = s.result := rfl
@[simp] theorem markErrored_queue : (s.markErrored).queue = s.queue := rfl

/-! ### raiseFatal -/

@[simp] theorem raiseFatal_params : (s.raiseFatal).params = s.params := rfl
@[simp] theorem raiseFatal_fb : (s.raiseFatal).fb = s.fb := rfl
@[simp] theorem raiseFatal_fbDraws : (s.raiseFatal).fbDraws = s.fbDraws := rfl
@[simp] theorem raiseFatal_rx : (s.raiseFatal).rx = s.rx := rfl
@[simp] theorem raiseFatal_rxDraws : (s.raiseFatal).rxDraws = s.rxDraws := rfl
@[simp] theorem raiseFatal_tx : (s.raiseFatal).tx = s.tx := rfl
@[simp] theorem raiseFatal_cb : (s.raiseFatal).cb = s.cb := rfl
@[simp] theorem raiseFatal_db : (s.raiseFatal).db = s.db := rfl
@[simp] theorem raiseFatal_dbUsed : (s.raiseFatal).dbUsed = s.dbUsed := rfl
@[simp] theorem raiseFatal_fx : (s.raiseFatal).fx = s.fx := rfl
@[simp] theorem raiseFatal_fxUsed : (s.raiseFatal).fxUsed = s.fxUsed := rfl
@[simp] theorem raiseFatal_snapInputs : (s.raiseFatal).snapInputs = s.snapInputs := rfl
@[simp] theorem raiseFatal_snapFrame : (s.raiseFatal).snapFrame = s.snapFrame := rfl
@[simp] theorem raiseFatal_mode : (s.raiseFatal).mode = s.mode := rfl
@[simp] theorem raiseFatal_pulseStart : (s.raiseFatal).pulseStart = s.pulseStart := rfl
@[simp] theorem raiseFatal_pulseArmed : (s.raiseFatal).pulseArmed = s.pulseArmed := rfl
@[simp] theorem raiseFatal_sq : (s.raiseFatal).sq = s.sq := rfl
@[simp] theorem raiseFatal_fatal : (s.raiseFatal).fatal = true := rfl
@[simp] theorem raiseFatal_result : (s.raiseFatal).result = s.result := rfl
@[simp] theorem raiseFatal_queue : (s.raiseFatal).queue = s.queue := rfl

/-! ### paint -/

@[simp] theorem paint_params (a : Nat) (c : Colour) : (s.paint a c).params = s.params := rfl
@[simp] theorem paint_fb (a : Nat) (c : Colour) : (s.paint a c).fb = s.fb := rfl
@[simp] theorem paint_fbDraws (a : Nat) (c : Colour) : (s.paint a c).fbDraws = s.fbDraws := rfl
@[simp] theorem paint_rx (a : Nat) (c : Colour) : (s.paint a c).rx = s.rx := rfl
@[simp] theorem paint_rxDraws (a : Nat) (c : Colour) : (s.paint a c).rxDraws = s.rxDraws := rfl
@[simp] theorem paint_tx (a : Nat) (c : Colour) : (s.paint a c).tx = s.tx := rfl
@[simp] theorem paint_cb (a : Nat) (c : Colour) : (s.paint a c).cb = s.cb.write a c := rfl
@[simp] theorem paint_db (a : Nat) (c : Colour) : (s.paint a c).db = s.db := rfl
@[simp] theorem paint_dbUsed (a : Nat) (c : Colour) : (s.paint a c).dbUsed = s.dbUsed := rfl
@[simp] theorem paint_fx (a : Nat) (c : Colour) : (s.paint a c).fx = s.fx := rfl
@[simp] theorem paint_fxUsed (a : Nat) (c : Colour) : (s.paint a c).fxUsed = s.fxUsed := rfl
@[simp] theorem paint_snapInputs (a : Nat) (c : Colour) : (s.paint a c).snapInputs = s.snapInputs := rfl
@[simp] theorem paint_snapFrame (a : Nat) (c : Colour) : (s.paint a c).snapFrame = s.snapFrame := rfl
@[simp] theorem paint_mode (a : Nat) (c : Colour) : (s.paint a c).mode = s.mode := rfl
@[simp] theorem paint_pulseStart (a : Nat) (c : Colour) : (s.paint a c).pulseStart = s.pulseStart := rfl
@[simp] theorem paint_pulseArmed (a : Nat) (c : Colour) : (s.paint a c).pulseArmed = s.pulseArmed := rfl
@[simp] theorem paint_sq (a : Nat) (c : Colour) : (s.paint a c).sq = s.sq := rfl
@[simp] theorem paint_fatal (a : Nat) (c : Colour) : (s.paint a c).fatal = s.fatal := rfl
@[simp] theorem paint_result (a : Nat) (c : Colour) : (s.paint a c).result = s.result := rfl
@[simp] theorem paint_queue (a : Nat) (c : Colour) : (s.paint a c).queue = s.queue := rfl

end Sys2Proof.Machine.State
end

