-- ==== Sys2Proof/Laws/Ops.lean ====
section
/-! SUPPORT. One lemma per shared operation that says what it can do. -/

namespace Sys2Proof.Machine

/-! ### Answers and stops -/

@[simp] theorem finish_ok (s : State) : finish (.ok s) = .next s := rfl
@[simp] theorem finish_fault (f : Fault) : finish (.error (.fault f)) = .fault f := rfl
@[simp] theorem finish_refused (r : Refusal) : finish (.error (.refused r)) = .refused r := rfl

theorem finish_eq_next {x : Except Stop State} {t : State} : finish x = .next t ↔ x = .ok t := by
  cases x with
  | ok s => simp
  | error e => cases e <;> simp

@[simp] theorem bind_ok {α β : Type} (a : α) (f : α → Except Stop β) : (Except.ok a >>= f) = f a := rfl
@[simp] theorem bind_error {α β : Type} (e : Stop) (f : α → Except Stop β) :
    ((Except.error e : Except Stop α) >>= f) = .error e := rfl
@[simp] theorem pure_eq_ok {α : Type} (a : α) : (pure a : Except Stop α) = .ok a := rfl
@[simp] theorem opFault_bind {α β : Type} (c : Reserved) (f : α → Except Stop β) :
    ((opFault c : Except Stop α) >>= f) = opFault c := rfl
@[simp] theorem noValue_bind {α β : Type} (r : NoValue) (f : α → Except Stop β) :
    ((noValue r : Except Stop α) >>= f) = noValue r := rfl
@[simp] theorem finish_opFault (c : Reserved) : finish (opFault c) = .refused (.opFault c) := rfl
@[simp] theorem finish_noValue (r : NoValue) : finish (noValue r) = .fault (.noValue r) := rfl
@[simp] theorem opFault_ne_ok {α : Type} (c : Reserved) (a : α) : (opFault c : Except Stop α) ≠ .ok a := nofun
@[simp] theorem noValue_ne_ok {α : Type} (r : NoValue) (a : α) : (noValue r : Except Stop α) ≠ .ok a := nofun
@[simp] theorem valueOf_some {α : Type} (r : NoValue) (v : α) : valueOf r (some v) = .ok v := rfl
@[simp] theorem valueOf_none {α : Type} (r : NoValue) : valueOf r (none : Option α) = noValue r := rfl

/-- A sequence of two answers only if the first answers and the second answers on it. -/
theorem bind_eq_ok {α β : Type} {x : Except Stop α} {f : α → Except Stop β} {b : β} :
    (x >>= f) = .ok b ↔ ∃ a, x = .ok a ∧ f a = .ok b := by
  cases x <;> simp

theorem valueOf_eq_ok {α : Type} {r : NoValue} {o : Option α} {v : α} : valueOf r o = .ok v ↔ o = some v := by
  cases o <;> simp

/-! ### Banks and operands -/

theorem debouncer_eq_ok {s : State} {d : Nat} {x : Debouncer} : s.debouncer d = .ok x ↔ s.db[d]? = some x := by
  unfold State.debouncer; split <;> simp [*]

theorem context_eq_ok {s : State} {e : Nat} {c : Context} : s.context e = .ok c ↔ s.fx[e]? = some c := by
  unfold State.context; split <;> simp [*]

theorem configured_eq_ok {s : State} {e : Nat} {c : Context} {k : FxConfig} :
    s.configured e = .ok (c, k) ↔ s.fx[e]? = some c ∧ c.config = some k := by
  unfold State.configured
  split
  · next c' h =>
    split
    · next k' hk =>
      constructor
      · intro he; cases he; exact ⟨h, hk⟩
      · rintro ⟨h1, h2⟩
        rw [h] at h1; cases h1
        rw [hk] at h2; cases h2; rfl
    · next hk =>
      simp only [opFault_ne_ok, false_iff]
      rintro ⟨h1, h2⟩
      rw [h] at h1; cases h1
      rw [hk] at h2; cases h2
  · next h => simp [h]

theorem sequencer_eq_ok {s : State} {l : Nat} {q : Sequencer} : s.sequencer l = .ok q ↔ s.sq[l]? = some q := by
  unfold State.sequencer; split <;> simp [*]

theorem seedRegister_eq_ok {s : State} {n : Nat} {o : Option Time} :
    s.seedRegister n = .ok o ↔ ∃ q, s.sq[n]? = some q ∧ q.seed = o := by
  unfold State.seedRegister; split <;> simp [*]

theorem slotOperand_eq_ok {s : State} {slot : Nat} {u : Unit} : s.slotOperand slot = .ok u ↔ slot < s.ledCount := by
  unfold State.slotOperand; split <;> simp [*]

theorem analogOperand_eq_ok {level : BitVec 16} {u : Unit} :
    analogOperand level = .ok u ↔ level.toNat ≤ Config.analogMax := by
  unfold analogOperand; split <;> simp [*]

theorem signalOperand_eq_ok {k : BitVec 4} {n : Nat} :
    signalOperand k = .ok n ↔ k.toNat < Config.numSignals ∧ k.toNat = n := by
  unfold signalOperand; split <;> simp [*]

/-- A role's context is one of the set. -/
theorem mem_set_of_context {q : Sequencer} {r : Role} {e : Nat} (h : q.context r = some e) :
    q.set.any (fun p => p.2 == e) = true := by
  unfold Sequencer.context at h
  generalize q.set = set at h ⊢
  induction set with
  | nil => simp at h
  | cons p set ih =>
    obtain ⟨k, n⟩ := p
    rw [List.lookup_cons] at h
    split at h
    · cases h; simp
    · simp [ih h]

theorem names_iff {q : Sequencer} {r : Role} {e : Nat} : q.names r e = true ↔ q.context r = some e := by
  simp [Sequencer.names]

/-- References are equal exactly when they name one context (10_state.md R19). -/
theorem isAt_iff {q : Sequencer} {r : Role} : q.isAt r = true ↔ ∃ e, q.cur = some e ∧ q.context r = some e := by
  cases h : q.cur <;> simp [Sequencer.isAt, h, names_iff]

theorem isLoud_iff {q : Sequencer} {e : Nat} :
    q.isLoud e = true ↔ q.context .redLoud = some e ∨ q.context .amberLoud = some e := by
  simp [Sequencer.isLoud, names_iff]

theorem isBlink_iff {q : Sequencer} {e : Nat} :
    q.isBlink e = true ↔ q.context .redLoud = some e ∨ q.context .amberLoud = some e
      ∨ q.context .redQuiet = some e ∨ q.context .amberQuiet = some e := by
  simp [Sequencer.isBlink, isLoud_iff, names_iff, or_assoc]

theorem hueOf_eq_ok {period index ledCount : Nat} {now : Time} {h : Byte} :
    hueOf period now index ledCount = .ok h ↔
      index < ledCount ∧ h = BitVec.ofNat 8 ((hueBase period now + hueOffset index ledCount) % 256) := by
  unfold hueOf
  split
  · simp [*, eq_comm]
  · simp [*]

theorem levelOf_eq_ok {k : FxConfig} {t : Nat} {v : Byte} :
    levelOf k t = .ok v ↔ ∃ p, k = .shimmer p ∧ t < p.duration ∧ v = shimmerLevel p t := by
  unfold levelOf
  split
  · split
    · simp [*, eq_comm]
    · simp [*]
  all_goals simp

/-- A Shimmer's level at a time brought into its duration is stated (R129, R130). -/
theorem levelOf_mod {p : ShimmerParams} (hp : 1 ≤ p.duration) (n : Nat) :
    levelOf (.shimmer p) (n % p.duration) = .ok (shimmerLevel p (n % p.duration)) :=
  if_pos (Nat.mod_lt n hp)

/-! ### The colour buffer -/

namespace Memory

theorem risingFrom_mono {m : Memory} {a b : Nat} (hab : a ≤ b) (h : m.risingFrom b = true) :
    m.risingFrom a = true := by
  cases m with
  | nil => rfl
  | cons p m =>
    simp only [risingFrom, Bool.and_eq_true, decide_eq_true_eq] at h ⊢
    exact ⟨hab.trans h.1, h.2⟩

/-- A slot below every listed one has no value. -/
theorem read_below {m : Memory} {lo slot : Nat} (h : m.risingFrom lo = true) (hs : slot < lo) :
    m.read slot = none := by
  induction m generalizing lo with
  | nil => rfl
  | cons p m ih =>
    obtain ⟨k, c⟩ := p
    simp only [risingFrom, Bool.and_eq_true, decide_eq_true_eq] at h
    rw [read, if_neg (by omega)]
    exact ih h.2 (by omega)

/-- Reading the slot just written gives the triple written. -/
theorem read_write_same (m : Memory) (slot : Nat) (c : Colour) : (m.write slot c).read slot = some c := by
  induction m with
  | nil => simp [write, read]
  | cons p m ih =>
    obtain ⟨k, c'⟩ := p
    rw [write]
    split
    · simp [read]
    · split
      · simp [read]
      · next h1 h2 => rw [read, if_neg h2, ih]

/-- A write leaves every other slot alone. -/
theorem read_write_other (m : Memory) {slot a : Nat} (c : Colour) (h : a ≠ slot) :
    (m.write slot c).read a = m.read a := by
  induction m with
  | nil => simp [write, read, h]
  | cons p m ih =>
    obtain ⟨k, c'⟩ := p
    rw [write]
    split
    · rw [read, if_neg h]
    · split
      · next h2 => subst h2; simp [read, h]
      · rw [read, read, ih]

theorem write_rising {m : Memory} {lo slot : Nat} (c : Colour) (h : m.risingFrom lo = true) (hs : lo ≤ slot) :
    (m.write slot c).risingFrom lo = true := by
  induction m generalizing lo with
  | nil => simp [write, risingFrom, hs]
  | cons p m ih =>
    obtain ⟨k, c'⟩ := p
    simp only [risingFrom, Bool.and_eq_true, decide_eq_true_eq] at h
    rw [write]
    split
    · simp only [risingFrom, Bool.and_eq_true, decide_eq_true_eq]
      exact ⟨hs, by omega, h.2⟩
    · split
      · next h2 => subst h2; simp [risingFrom, hs, h.2]
      · simp only [risingFrom, Bool.and_eq_true, decide_eq_true_eq]
        exact ⟨h.1, ih h.2 (by omega)⟩

/-- A write keeps the canonical form. -/
theorem write_wf {m : Memory} (slot : Nat) (c : Colour) (h : m.wf = true) : (m.write slot c).wf = true :=
  write_rising c h (Nat.zero_le _)

/-- A write lists no slot but the one written and those listed before. -/
theorem mem_write {m : Memory} {slot : Nat} {c : Colour} {p : Nat × Colour} (h : p ∈ m.write slot c) :
    p = (slot, c) ∨ p ∈ m := by
  induction m with
  | nil => simpa [write] using h
  | cons x m ih =>
    obtain ⟨k, c'⟩ := x
    rw [write] at h
    split at h
    · simpa using h
    · split at h
      · simp only [List.mem_cons] at h ⊢
        tauto
      · simp only [List.mem_cons] at h ⊢
        rcases h with h | h
        · tauto
        · have := ih h
          tauto

end Memory

/-- The reset buffer is in canonical form. -/
theorem reset_cb_wf : Memory.wf State.reset.cb = true := rfl

/-! ### The operations over banks -/

/-- What `dbProcess` does when it answers: DB[d] alone changes, as R101 says, and is marked in use. -/
theorem dbProcess_eq_ok {d : Nat} {now : Time} {reading : Bool} {s t : State} {e : Edge} :
    dbProcess d now reading s = .ok (t, e) ↔
      ∃ x, s.db[d]? = some x ∧ t = (s.setDb d (x.process now reading).1).useDb d
        ∧ e = (x.process now reading).2 := by
  simp only [dbProcess, bind_eq_ok, debouncer_eq_ok, pure_eq_ok, Except.ok.injEq, Prod.mk.injEq]
  constructor
  · rintro ⟨x, hx, rfl, rfl⟩; exact ⟨x, hx, rfl, rfl⟩
  · rintro ⟨x, hx, rfl, rfl⟩; exact ⟨x, hx, rfl, rfl⟩

/-- What `fxActivate` does when it answers. -/
theorem fxActivate_eq_ok {e : Nat} {now : Time} {s t : State} :
    fxActivate e now s = .ok t ↔
      ∃ c k, s.fx[e]? = some c ∧ c.config = some k
        ∧ t = (s.setFx e (c.activate k s.params.flashDuration e now)).useFx e := by
  simp only [fxActivate, bind_eq_ok, pure_eq_ok, Except.ok.injEq, Prod.exists, configured_eq_ok]
  constructor
  · rintro ⟨c, k, ⟨hc, hk⟩, rfl⟩; exact ⟨c, k, hc, hk, rfl⟩
  · rintro ⟨c, k, hc, hk, rfl⟩; exact ⟨c, k, ⟨hc, hk⟩, rfl⟩

/-- What `fxTick` does when it answers: one slot is painted, FX[e] is left as `tickOf` says. -/
theorem fxTick_eq_ok {e slot : Nat} {now : Time} {s t : State} :
    fxTick e slot now s = .ok t ↔
      slot < s.ledCount ∧ ∃ c k c' color, s.fx[e]? = some c ∧ c.config = some k
        ∧ tickOf s.params e c k now = .ok (c', color)
        ∧ t = ((s.setFx e c').paint slot color).useFx e := by
  simp only [fxTick, bind_eq_ok, pure_eq_ok, Except.ok.injEq, Prod.exists, configured_eq_ok, slotOperand_eq_ok]
  constructor
  · rintro ⟨_, hs, c, k, ⟨hc, hk⟩, c', color, ht, rfl⟩; exact ⟨hs, c, k, c', color, hc, hk, ht, rfl⟩
  · rintro ⟨hs, c, k, c', color, hc, hk, ht, rfl⟩; exact ⟨(), hs, c, k, ⟨hc, hk⟩, c', color, ht, rfl⟩

/-- What `fxExpired` asks when it answers. -/
theorem fxExpired_eq_ok {e : Nat} {now : Time} {s : State} {b : Bool} :
    fxExpired e now s = .ok b ↔
      ∃ c k, s.fx[e]? = some c ∧ c.config = some k ∧ expiredOf s c k now = .ok b := by
  simp only [fxExpired, bind_eq_ok, Prod.exists, configured_eq_ok, and_assoc]

/-- What `fxSeed` does when it answers. -/
theorem fxSeed_eq_ok {n : Nat} {now : Time} {s t : State} :
    fxSeed n now s = .ok t ↔
      ∃ q, s.sq[n]? = some q ∧ t = s.setSq n { q with seed := some now } := by
  unfold fxSeed
  split
  · next q h => simp [h, eq_comm]
  · next h => simp [h]

/-- Activation keeps the configuration and sets the activation time. -/
theorem activate_config (c : Context) (k : FxConfig) (fd e : Nat) (now : Time) :
    (c.activate k fd e now).config = c.config ∧ (c.activate k fd e now).tact = some now := by
  cases k <;> exact ⟨rfl, rfl⟩

/-- A tick leaves a context as it was or starts a new Sparkle cycle in it (R117, R128). -/
theorem tickOf_context {p : Config.Params} {e : Nat} {c c' : Context} {k : FxConfig} {now : Time} {color : Colour}
    (h : tickOf p e c k now = .ok (c', color)) : c' = c ∨ (k = .sparkle ∧ c' = c.roll p.flashDuration e now) := by
  cases k with
  | sparkle =>
    simp only [tickOf, bind_eq_ok, pure_eq_ok, Except.ok.injEq] at h
    obtain ⟨t0, -, dark, -, h⟩ := h
    unfold sparkleTick at h
    split at h
    · cases h; exact .inl rfl
    · split at h
      · cases h; exact .inl rfl
      · cases h; exact .inr ⟨rfl, rfl⟩
  | shimmer q =>
    simp only [tickOf, bind_eq_ok, pure_eq_ok, Except.ok.injEq] at h
    obtain ⟨_, -, _, -, h⟩ := h
    cases h; exact .inl rfl
  | solid _ => cases h; exact .inl rfl
  | timedSolid _ _ => cases h; exact .inl rfl
  | flash _ _ _ => cases h; exact .inl rfl
  | rainbow _ _ =>
    simp only [tickOf, bind_eq_ok, pure_eq_ok, Except.ok.injEq] at h
    obtain ⟨_, -, h⟩ := h
    cases h; exact .inl rfl

/-- A drawn dark interval lies in 0 .. 5 × FLASH_DURATION (R127). -/
theorem drawDark_le (fd e n : Nat) : (drawDark fd e n).toNat ≤ Config.sparkleMaxDark fd := by
  unfold drawDark
  rw [BitVec.toNat_ofNat]
  have h := Nat.mod_lt (Config.sparkleRoll e n) (Nat.succ_pos (Config.sparkleMaxDark fd))
  exact (Nat.mod_le _ _).trans (Nat.lt_succ_iff.mp h)

/-! ### The sequencer -/

/-- An instance in a bank has a number below the bank's length. -/
theorem lt_of_sequencer {s : State} {l : Nat} {q : Sequencer} (h : s.sq[l]? = some q) : l < s.sq.length := by
  by_contra hh
  simp [List.getElem?_eq_none (not_lt.mp hh)] at h

/-- What `tickCurrent` does when it answers: one slot is painted, as `fxTick` says, and no result is given (R158 step 2). -/
theorem tickCurrent_cases {e slot : Nat} {now : Time} {s t : State} (h : tickCurrent e slot now s = .ok t) :
    ∃ c k c' color, slot < s.ledCount ∧ s.fx[e]? = some c ∧ c.config = some k
      ∧ tickOf s.params e c k now = .ok (c', color)
      ∧ t = (((s.setFx e c').paint slot color).useFx e).ret .nothing := by
  simp only [tickCurrent, bind_eq_ok, pure_eq_ok, Except.ok.injEq, fxTick_eq_ok] at h
  obtain ⟨_, ⟨hs, c, k, c', color, hc, hk, ht, rfl⟩, rfl⟩ := h
  exact ⟨c, k, c', color, hs, hc, hk, ht, rfl⟩

/-- What `enter` does when it answers: the context is activated, in use and current, and the seed is re-armed
exactly where R163 says. -/
theorem enter_cases {l e : Nat} {q : Sequencer} {now : Time} {s t : State} (hq : s.sq[l]? = some q)
    (h : enter l q e now s = .ok t) :
    ∃ c k, s.fx[e]? = some c ∧ c.config = some k ∧ t = { s with
      fx := s.fx.set e (c.activate k s.params.flashDuration e now)
      fxUsed := s.fxUsed.set e true
      sq := s.sq.set l { q with cur := some e, seed := if q.rearms e then some now else q.seed } } := by
  have hl := lt_of_sequencer hq
  unfold enter at h
  cases hr : q.rearms e
  · simp only [hr, bind_eq_ok, fxActivate_eq_ok, sequencer_eq_ok, pure_eq_ok, Except.ok.injEq,
      Bool.false_eq_true, if_false] at h
    obtain ⟨_, rfl, _, ⟨c, k, hc, hk, rfl⟩, q2, hq2, rfl⟩ := h
    have h2 : s.sq[l]? = some q2 := hq2
    rw [hq] at h2
    cases h2
    exact ⟨c, k, hc, hk, rfl⟩
  · simp only [hr, if_true, bind_eq_ok, fxSeed_eq_ok, fxActivate_eq_ok, sequencer_eq_ok, pure_eq_ok,
      Except.ok.injEq] at h
    obtain ⟨_, ⟨q', hq', rfl⟩, _, ⟨c, k, hc, hk, rfl⟩, q2, hq2, rfl⟩ := h
    rw [hq] at hq'
    cases hq'
    have h2 : (s.sq.set l { q with seed := some now })[l]? = some q2 := hq2
    simp only [List.getElem?_set_self hl, Option.some.injEq] at h2
    subst h2
    exact ⟨c, k, hc, hk, by simp [State.setSq, State.useFx, State.setFx]⟩

/-- What `chooseAndTick` does when it answers: FATAL for a choice outside the set; else the chosen context, where it
is not the current one, is entered, and the context is ticked (R158, 60_exceptions.md R186). -/
theorem chooseAndTick_cases {l : Nat} {q : Sequencer} {now : Time} {s t : State}
    (h : chooseAndTick l q now s = .ok t) :
    ∃ nxt, chooseNext s q = .ok nxt ∧
      ((q.context nxt = none ∧ t = s.raiseFatal) ∨
        ∃ e, q.context nxt = some e ∧
          ((q.cur = some e ∧ tickCurrent e q.slot now s = .ok t) ∨
            (q.cur ≠ some e ∧ ∃ s', enter l q e now s = .ok s' ∧ tickCurrent e q.slot now s' = .ok t))) := by
  unfold chooseAndTick at h
  simp only [bind_eq_ok] at h
  obtain ⟨nxt, hn, h⟩ := h
  refine ⟨nxt, hn, ?_⟩
  split at h
  · next hx => exact .inl ⟨hx, by simpa using h.symm⟩
  · next e hx =>
    refine .inr ⟨e, hx, ?_⟩
    split at h
    · next hc => exact .inl ⟨hc, by simpa using h⟩
    · next hc => exact .inr ⟨hc, by simpa only [bind_eq_ok] using h⟩

/-- What `sqTick` does when it answers: a current context that has not expired is ticked, else the sequencer
chooses (R158). -/
theorem sqTick_cases {l : Nat} {now : Time} {s t : State} (h : sqTick l now s = .ok t) :
    ∃ q, s.sq[l]? = some q ∧
      ((∃ e, q.cur = some e ∧ fxExpired e now s = .ok false ∧ tickCurrent e q.slot now s = .ok t) ∨
        ((q.cur = none ∨ ∃ e, q.cur = some e ∧ fxExpired e now s = .ok true) ∧ chooseAndTick l q now s = .ok t)) := by
  simp only [sqTick, bind_eq_ok, sequencer_eq_ok] at h
  obtain ⟨q, hq, h⟩ := h
  refine ⟨q, hq, ?_⟩
  split at h
  · next hc => exact .inr ⟨.inl hc, h⟩
  · next e hc =>
    simp only [bind_eq_ok] at h
    obtain ⟨b, hb, h⟩ := h
    cases b
    · exact .inl ⟨e, hc, hb, by simpa using h⟩
    · exact .inr ⟨.inr ⟨e, hc, hb⟩, by simpa using h⟩

/-- What FX_EXPIRED answers is what the sequencer asks (R118, R158). -/
theorem fxExpired_of_exec {e : Nat} {now : Time} {s t : State} {b : Bool}
    (h : exec (.fxExpired e now) s = .next t) (hb : t.result = .bit b) : fxExpired e now s = .ok b := by
  simp only [exec, execFxExpired, finish_eq_next, bind_eq_ok, pure_eq_ok, Except.ok.injEq] at h
  obtain ⟨b', hb', rfl⟩ := h
  simp only [State.ret_result, Result.bit.injEq] at hb
  rw [hb', hb]

/-- A sequencer that may choose does so (R158). -/
theorem sqTick_of_mayChoose {l : Nat} {q : Sequencer} {now : Time} {s : State} (hq : s.sq[l]? = some q)
    (h : s.MayChoose q now) : sqTick l now s = chooseAndTick l q now s := by
  rcases h with h | ⟨e, t, hc, ht, hb⟩
  · simp [sqTick, State.sequencer, hq, h]
  · simp [sqTick, State.sequencer, hq, hc, fxExpired_of_exec ht hb]

/-- A sequencer whose current context has not expired ticks it (R158). -/
theorem sqTick_of_held {l e : Nat} {q : Sequencer} {now : Time} {s : State} (hq : s.sq[l]? = some q)
    (hc : q.cur = some e) (h : fxExpired e now s = .ok false) : sqTick l now s = tickCurrent e q.slot now s := by
  simp [sqTick, State.sequencer, hq, hc, h]

/-! ### Receiving and stepping -/

/-- The three results of a receive attempt with two bytes waiting, and the one without (R88). -/
theorem receive_cases (s : State) :
    (s.rx.length < 2 ∧ receive s = (s.markErrored, .underrun)) ∨
    (∃ b0 b1 rest, s.rx = b0 :: b1 :: rest ∧
      ((marker b0 = false ∧ receive s = ((s.setRx (b1 :: rest)).markErrored, .badStart)) ∨
       (marker b0 = true ∧ marker b1 = true ∧ receive s = ((s.setRx rest).markErrored, .badCont)) ∨
       (marker b0 = true ∧ marker b1 = false ∧ receive s = ((s.setRx rest).setFb ⟨b0, b1⟩, .ok)))) := by
  unfold receive
  split
  · next b0 b1 rest h =>
    refine .inr ⟨b0, b1, rest, h, ?_⟩
    cases h0 : marker b0 <;> cases h1 : marker b1 <;> simp
  · next b h => exact .inl ⟨by simp [h], rfl⟩
  · next h => exact .inl ⟨by simp [h], rfl⟩

/-- Marking errored clears FB[0][7] whatever is drawn (R88, R89). -/
theorem erroredFrame_isError (draw : BitVec 15) : (erroredFrame draw).isError = true := by
  simp [erroredFrame, Frame.isError, marker]

/-- An arrival that fits is appended (R52). -/
theorem rxArrive_of_fits {s : State} {bytes : List Byte} (h : s.rx.length + bytes.length ≤ s.params.rxDepth) :
    s.rxArrive bytes = s.setRx (s.rx ++ bytes) := if_pos h

/-- An arrival never leaves more than RX_DEPTH bytes (R41). -/
theorem rxArrive_fits (s : State) (bytes : List Byte) :
    (s.rxArrive bytes).rx.length ≤ (s.rxArrive bytes).params.rxDepth := by
  unfold State.rxArrive
  split
  · simpa using ‹_›
  · simp

/-- An arrival touches RX and its draw count alone. -/
theorem rxArrive_frame (s : State) (bytes : List Byte) :
    s.rxArrive bytes = { s with rx := (s.rxArrive bytes).rx, rxDraws := (s.rxArrive bytes).rxDraws } := by
  unfold State.rxArrive
  split <;> rfl

/-- What a step takes from the queue: an instruction runs on the state whose queue is the rest. -/
theorem fetch_run {s t : State} {i : Instr} (h : fetch s = .run i t) :
    s.fatal = false ∧ ∃ input rest, s.queue = input :: rest ∧ decode input = .ok i ∧ t = s.setQueue rest := by
  unfold fetch at h
  split at h
  · split at h <;> cases h
  · cases h
  · next op p rest hq =>
    split at h
    · cases h
    · next hf =>
      split at h
      · next j hd => cases h; exact ⟨by simpa using hf, _, rest, hq, by simp [decode, hd], rfl⟩
      · cases h
  · next bytes rest hq =>
    split at h
    · cases h
    · next hf =>
      split at h
      · next j hd => cases h; exact ⟨by simpa using hf, _, rest, hq, by simpa [decode] using hd, rfl⟩
      · cases h
  · split at h <;> cases h

/-- What a step does without running an instruction. -/
theorem fetch_quiet {s t : State} (h : fetch s = .quiet t) :
    (s.queue = [] ∧ t = s) ∨
    (∃ rest, s.queue = .powerOn :: rest ∧ t = (s.setQueue rest).powerOn) ∨
    (∃ bytes rest, s.queue = .wire bytes :: rest ∧ t = (s.setQueue rest).rxArrive bytes) ∨
    (∃ n rest, s.queue = .takeTx n :: rest ∧ t = (s.setQueue rest).setTx (s.tx.drop n)) := by
  unfold fetch at h
  split at h
  · next hq => split at h <;> cases h; exact .inl ⟨hq, rfl⟩
  · next rest hq => cases h; exact .inr (.inl ⟨rest, hq, rfl⟩)
  · split at h
    · cases h
    · split at h <;> cases h
  · next bytes rest hq =>
    split at h
    · cases h
    · split at h
      · cases h
      · cases h; exact .inr (.inr (.inl ⟨bytes, rest, hq, rfl⟩))
  · next n rest hq =>
    split at h
    · cases h
    · cases h; exact .inr (.inr (.inr ⟨n, rest, hq, rfl⟩))

/-- A step that answers runs an instruction or is a quiet one. -/
theorem step_cases {s t : State} (h : step s = .next t) :
    (∃ i s', fetch s = .run i s' ∧ exec i s' = .next t) ∨ fetch s = .quiet t := by
  unfold step at h
  split at h
  · next i s' hf => exact .inl ⟨i, s', hf, h⟩
  · next s' hf => cases h; exact .inr hf
  · cases h
  · cases h

end Sys2Proof.Machine
end

