-- ==== Sys2Proof/Laws/PerInstr.lean ====
section
/-! SUPPORT. Families of facts about the instruction as syntax, one lemma per constructor. RoundTrip: a
well-formed instruction is what its own words decode to. -/

namespace Sys2Proof

/-- The marker of byte 0 of an encoded frame is 1, that of byte 1 is 0 (30_encoding.md R60). -/
theorem marker_frameBytes (signals : BitVec 10) (spare : BitVec 4) :
    marker (frameByte0 signals) = true ∧ marker (frameByte1 signals spare) = false := by
  constructor <;> simp [marker, frameByte0, frameByte1]

/-- The signals of an encoded frame are the signals encoded (30_encoding.md R61). -/
theorem signalsOf_frameBytes (signals : BitVec 10) (spare : BitVec 4) :
    signalsOf (frameByte0 signals) (frameByte1 signals spare) = signals := by
  unfold signalsOf frameByte0 frameByte1
  apply BitVec.eq_of_getLsbD_eq
  intro i hi
  interval_cases i <;> simp

/-- The spare bits of an encoded frame are the spare bits encoded (30_encoding.md R63). -/
theorem spareOf_frameByte1 (signals : BitVec 10) (spare : BitVec 4) :
    spareOf (frameByte1 signals spare) = spare := by
  unfold spareOf frameByte1
  apply BitVec.eq_of_getLsbD_eq
  intro i hi
  interval_cases i <;> simp

/-- A command whose ports read as a well-formed instruction decodes to it. -/
theorem decode_command {op : Byte} {p : Ports} {i : Instr} (hr : readCommand op p = .ok i) (hw : i.WellFormed) :
    decode (.command op p) = .ok i := by
  simp [decode, decodeCommand, hr, hw]

end Sys2Proof

namespace Sys2Proof.Laws.RoundTrip

/-- Decoding an encoded well-formed instruction gives it back. -/
def Statement (i : Instr) : Prop := i.WellFormed → decode (encode i) = .ok i

theorem frame (signals : BitVec 10) (spare : BitVec 4) : Statement (.frame signals spare) := by
  intro _
  obtain ⟨h0, h1⟩ := marker_frameBytes signals spare
  simp [decode, encode, decodeWire, h0, h1, signalsOf_frameBytes, spareOf_frameByte1]

theorem frClear : Statement (.frClear) :=
  fun h => decode_command rfl h

theorem frLoad (in0 in1 : Byte) : Statement (.frLoad in0 in1) :=
  fun h => decode_command rfl h

theorem frLoadRaw (in0 in1 : Byte) : Statement (.frLoadRaw in0 in1) :=
  fun h => decode_command rfl h

theorem frSetBit (k : BitVec 4) (v : Bool) : Statement (.frSetBit k v) :=
  fun h => decode_command rfl h

theorem frGetBit (k : BitVec 4) : Statement (.frGetBit k) :=
  fun h => decode_command rfl h

theorem frIsError : Statement (.frIsError) :=
  fun h => decode_command rfl h

theorem frEncode (vec : BitVec 10) : Statement (.frEncode vec) :=
  fun h => decode_command rfl h

theorem frDecode : Statement (.frDecode) :=
  fun h => decode_command rfl h

theorem frRx : Statement (.frRx) :=
  fun h => decode_command rfl h

theorem frTx : Statement (.frTx) :=
  fun h => decode_command rfl h

theorem dbInit (d : Nat) (st : Time) : Statement (.dbInit d st) :=
  fun h => decode_command rfl h

theorem dbProcess (d : Nat) (now : Time) (r : Bool) : Statement (.dbProcess d now r) :=
  fun h => decode_command rfl h

theorem dbForce (d : Nat) (v : Bool) : Statement (.dbForce d v) :=
  fun h => decode_command rfl h

theorem dbStable (d : Nat) : Statement (.dbStable d) :=
  fun h => decode_command rfl h

theorem fxConfig (e : Nat) (c : FxConfig) : Statement (.fxConfig e c) := by
  intro h
  cases c <;> exact decode_command rfl h

theorem fxActivate (e : Nat) (now : Time) : Statement (.fxActivate e now) :=
  fun h => decode_command rfl h

theorem fxTick (e slot : Nat) (now : Time) : Statement (.fxTick e slot now) :=
  fun h => decode_command rfl h

theorem fxExpired (e : Nat) (now : Time) : Statement (.fxExpired e now) :=
  fun h => decode_command rfl h

theorem fxSeed (n : Nat) (now : Time) : Statement (.fxSeed n now) :=
  fun h => decode_command rfl h

theorem fxFlashPhase (now seed : Time) : Statement (.fxFlashPhase now seed) :=
  fun h => decode_command rfl h

theorem fxHue (now : Time) (i n : Nat) : Statement (.fxHue now i n) :=
  fun h => decode_command rfl h

theorem fxShimmerLevel (e : Nat) (t : Time) : Statement (.fxShimmerLevel e t) :=
  fun h => decode_command rfl h

theorem agUpdate (now : Time) (a b c d : Bool) (f t o : BitVec 16) : Statement (.agUpdate now a b c d f t o) :=
  fun h => decode_command rfl h

theorem agPulseQ (now : Time) : Statement (.agPulseQ now) :=
  fun h => decode_command rfl h

theorem agMode : Statement (.agMode) :=
  fun h => decode_command rfl h

theorem sqTick (l : Nat) (now : Time) : Statement (.sqTick l now) :=
  fun h => decode_command rfl h

end Sys2Proof.Laws.RoundTrip
end

