-- ==== Sys2Proof/Tests/Slice0.lean ====
section
/-! SUPPORT. The model's own tests: ill-formed terms refused, words written out from the spec's encodings, one-step
vectors of 95_test_vectors.md, and a witness for the hypotheses of every statement. -/

namespace Sys2Proof.Tests

open Sys2Proof.Machine

/-! ### Well-formedness: one ill-formed term for each check (30_encoding.md R67, R133, R151) -/

def shimmerA : ShimmerParams := ⟨3, 2, 2000, 8, mkRat 1 100, 0, 0⟩

theorem test_signal_index_10_is_ill_formed : (Instr.frSetBit 10 true).wellFormed = false := by decide
theorem test_get_index_15_is_ill_formed : (Instr.frGetBit 15).wellFormed = false := by decide
theorem test_fuel_1024_is_ill_formed :
    (Instr.agUpdate 0 false false false false 1024 0 0).wellFormed = false := by decide
theorem test_temperature_1024_is_ill_formed :
    (Instr.agUpdate 0 false false false false 0 1024 0).wellFormed = false := by decide
theorem test_oil_1024_is_ill_formed :
    (Instr.agUpdate 0 false false false false 0 0 1024).wellFormed = false := by decide
theorem test_rainbow_of_no_led_is_ill_formed : (Instr.fxConfig 0 (.rainbow 0 0)).wellFormed = false := by decide
theorem test_rainbow_index_8_of_8_is_ill_formed : (Instr.fxConfig 0 (.rainbow 8 8)).wellFormed = false := by
  decide
theorem test_shimmer_of_no_duration_is_ill_formed :
    (Instr.fxConfig 0 (.shimmer { shimmerA with duration := 0 })).wellFormed = false := by decide
theorem test_boundaries_are_well_formed :
    (Instr.frSetBit 9 true).wellFormed = true ∧ (Instr.fxConfig 0 (.rainbow 8 7)).wellFormed = true
      ∧ (Instr.agUpdate 0 false false false false 1023 1023 1023).wellFormed = true := by decide

/-! ### Decoding: words written out from R60 and R66, every constructor -/

/-- `1gfedcba 0xxxxjih` (R60): signals 1, 3, 5, 7, 9, no spare bit; signal 6 alone; signals 7 and 9, spare 1010. -/
theorem test_decode_frame_words :
    decodeTableWord 16 0b1010101000000101 = some (.frame 0x2AA 0)
    ∧ decodeTableWord 16 0b1100000000000000 = some (.frame 0x040 0)
    ∧ decodeTableWord 16 0b1000000001010101 = some (.frame 0x280 0b1010) := by decide

/-- The three classes of R64 that are no frame. -/
theorem test_decode_marker_classes :
    decode (.wire [0x00, 0x00]) = .error .badStart ∧ decode (.wire [0x7F, 0x80]) = .error .badStart
    ∧ decode (.wire [0x80, 0x80]) = .error .badContinuation
    ∧ decode (.wire [0x80]) = .error .notTwoBytes := ⟨rfl, rfl, rfl, rfl⟩

theorem test_decode_framer_words :
    decode (.command 0b00000000 {}) = .ok .frClear
    ∧ decode (.command 0b00000001 { in0 := 0x05, in1 := 0x82 }) = .ok (.frLoad 0x05 0x82)
    ∧ decode (.command 0b00000010 { in0 := 0x7F, in1 := 0x07 }) = .ok (.frLoadRaw 0x7F 0x07)
    ∧ decode (.command 0b00000011 { k := 9, v := true }) = .ok (.frSetBit 9 true)
    ∧ decode (.command 0b00000100 { k := 6 }) = .ok (.frGetBit 6)
    ∧ decode (.command 0b00000101 {}) = .ok .frIsError
    ∧ decode (.command 0b00000110 { vec := 0x2AA }) = .ok (.frEncode 0x2AA)
    ∧ decode (.command 0b00000111 {}) = .ok .frDecode
    ∧ decode (.command 0b00001000 {}) = .ok .frRx
    ∧ decode (.command 0b00001001 {}) = .ok .frTx := ⟨rfl, rfl, rfl, rfl, rfl, rfl, rfl, rfl, rfl, rfl⟩

theorem test_decode_debouncer_words :
    decode (.command 0b00010000 { d := 3, stableTime := 50 }) = .ok (.dbInit 3 50)
    ∧ decode (.command 0b00010001 { d := 2, now := 70, reading := true }) = .ok (.dbProcess 2 70 true)
    ∧ decode (.command 0b00010010 { d := 1, value := true }) = .ok (.dbForce 1 true)
    ∧ decode (.command 0b00010011 { d := 1 }) = .ok (.dbStable 1) := ⟨rfl, rfl, rfl, rfl⟩

/-- FX_CONFIG by the kind codes of R70. -/
theorem test_decode_config_words :
    decode (.command 0b00100000 { e := 5, kind := 0, color := ⟨1, 2, 3⟩ }) = .ok (.fxConfig 5 (.solid ⟨1, 2, 3⟩))
    ∧ decode (.command 0b00100000 { e := 5, kind := 1, color := ⟨1, 2, 3⟩, lifetime := 300 }) =
        .ok (.fxConfig 5 (.timedSolid ⟨1, 2, 3⟩ 300))
    ∧ decode (.command 0b00100000 { e := 5, kind := 2, color := ⟨1, 2, 3⟩, activeHalf := true, seedId := 4 }) =
        .ok (.fxConfig 5 (.flash ⟨1, 2, 3⟩ true 4))
    ∧ decode (.command 0b00100000 { e := 5, kind := 3, ledCount := 8, index := 7 }) =
        .ok (.fxConfig 5 (.rainbow 8 7))
    ∧ decode (.command 0b00100000 { e := 5, kind := 4 }) = .ok (.fxConfig 5 .sparkle)
    ∧ decode (.command 0b00100000
        { e := 5, kind := 5, px := 1, py := 2, duration := 3, distanceFactor := 4,
          speedFactor := 5, initialOffset := 6, slope := 7 }) = .ok (.fxConfig 5 (.shimmer ⟨1, 2, 3, 4, 5, 6, 7⟩))
    ∧ decode (.command 0b00100000 { e := 5, kind := 6 }) = .error (.reserved .effectKind) :=
  ⟨rfl, rfl, rfl, rfl, rfl, rfl, rfl⟩

theorem test_decode_effect_words :
    decode (.command 0b00100001 { e := 5, now := 9 }) = .ok (.fxActivate 5 9)
    ∧ decode (.command 0b00100010 { e := 5, slot := 4, now := 9 }) = .ok (.fxTick 5 4 9)
    ∧ decode (.command 0b00100011 { e := 5, now := 9 }) = .ok (.fxExpired 5 9)
    ∧ decode (.command 0b00100100 { s := 2, now := 9 }) = .ok (.fxSeed 2 9)
    ∧ decode (.command 0b00100101 { now := 9, seed := 7 }) = .ok (.fxFlashPhase 9 7)
    ∧ decode (.command 0b00100110 { now := 9, index := 3, ledCount := 8 }) = .ok (.fxHue 9 3 8)
    ∧ decode (.command 0b00100111 { e := 5, t := 100 }) = .ok (.fxShimmerLevel 5 100) :=
  ⟨rfl, rfl, rfl, rfl, rfl, rfl, rfl⟩

theorem test_decode_wrapper_words :
    decode (.command 0b00110000
        { now := 9, ignition := true, tachCritical := true, fuel := 1, temperature := 2, oil := 1023 }) = .ok (.agUpdate 9 true false false true 1 2 1023)
    ∧ decode (.command 0b00110001 { now := 9 }) = .ok (.agPulseQ 9)
    ∧ decode (.command 0b00110010 {}) = .ok .agMode
    ∧ decode (.command 0b00110011 { l := 4, now := 9 }) = .ok (.sqTick 4 9) := ⟨rfl, rfl, rfl, rfl⟩

theorem test_decode_reserved_words :
    decode (.command 0x0A {}) = .error (.reserved .unknownOpcode)
    ∧ decode (.command 0xFF {}) = .error (.reserved .unknownOpcode)
    ∧ decode (.command 0x03 { k := 10 }) = .error (.reserved .signalIndex) := ⟨rfl, rfl, rfl⟩

/-! ### One step (95_test_vectors.md) -/

/-- The state after an operation, where there is one. -/
def after (i : Instr) (s : State) : Option State :=
  match exec i s with
  | .next t => some t
  | .fault _ => none
  | .refused _ => none

/-- The result of an operation, where there is one. -/
def answer (i : Instr) (s : State) : Option Result := (after i s).map State.result

/-- A sequencer whose current context answers that it has expired may choose. -/
theorem mayChoose_of_answer {s : State} {q : Sequencer} {now : Time} {e : Nat} (hc : q.cur = some e)
    (h : answer (.fxExpired e now) s = some (.bit true)) : s.MayChoose q now := by
  unfold answer after at h
  split at h
  · next t ht => exact .inr ⟨e, t, hc, ht, by simpa using h⟩
  · simp at h
  · simp at h

/-- The cause of a refused operation, where it is refused. -/
def cause (i : Instr) (s : State) : Option Refusal :=
  match exec i s with
  | .next _ => none
  | .fault _ => none
  | .refused r => some r

/-- Reset with a frame buffer. -/
def withFb (b0 b1 : Byte) : State := { State.reset with fb := ⟨b0, b1⟩ }

/-- Reset with bytes waiting in RX. -/
def withRx (bytes : List Byte) : State := { State.reset with rx := bytes }

/-- Reset with registers in DB[0]. -/
def withDb (x : Debouncer) : State := { State.reset with db := State.reset.db.set 0 x }

/-- Reset with context 0 in use as `k`, its timestamps as given, in a slot of its own. -/
def withFx (k : FxConfig) (tact spT0 spDark : Option Time) : State :=
  { State.reset with
    fx := State.reset.fx.set 0 ⟨some k, tact, spT0, spDark, 0⟩, fxUsed := State.reset.fxUsed.set 0 true }

theorem test_frame_arrives :
    (after (.frame 0x2AA 0) (withRx [0x99])).map State.rx = some [0x99, 0xAA, 0x05] := by decide +kernel
theorem test_clear : (after .frClear (withFb 0x3F 0xFF)).map State.fb = some ⟨0x80, 0x00⟩ := by decide +kernel
theorem test_load_forces_markers :
    (after (.frLoad 0x05 0x82) State.reset).map State.fb = some ⟨0x85, 0x02⟩
    ∧ (after (.frLoad 0xFF 0xFF) State.reset).map State.fb = some ⟨0xFF, 0x7F⟩ := by decide +kernel
theorem test_load_raw_forces_nothing :
    (after (.frLoadRaw 0x7F 0x87) State.reset).map State.fb = some ⟨0x7F, 0x87⟩ := by decide +kernel
theorem test_set_bit_crosses_the_byte_boundary :
    (after (.frSetBit 6 true) (withFb 0x80 0x00)).map State.fb = some ⟨0xC0, 0x00⟩
    ∧ (after (.frSetBit 7 true) (withFb 0x80 0x00)).map State.fb = some ⟨0x80, 0x01⟩ := by decide +kernel
theorem test_set_bit_keeps_spare_bits_and_bad_marker :
    (after (.frSetBit 8 false) (withFb 0xFF 0x7F)).map State.fb = some ⟨0xFF, 0x7D⟩
    ∧ (after (.frSetBit 3 true) (withFb 0x00 0x00)).map State.fb = some ⟨0x08, 0x00⟩
    ∧ after (.frSetBit 10 true) State.reset = none := by decide +kernel
theorem test_get_bit :
    answer (.frGetBit 6) (withFb 0xC0 0x04) = some (.bit true) ∧ answer (.frGetBit 9) (withFb 0xC0 0x04) = some (.bit true)
    ∧ answer (.frGetBit 0) (withFb 0xC0 0x04) = some (.bit false) := by decide +kernel
theorem test_is_error_ignores_byte_1 :
    answer .frIsError (withFb 0x80 0x80) = some (.bit false)
    ∧ answer .frIsError (withFb 0x00 0x00) = some (.bit true) := by decide +kernel
theorem test_encode :
    (after (.frEncode 0x2AA) State.reset).map State.fb = some ⟨0xAA, 0x05⟩
    ∧ (after (.frEncode 0x380) State.reset).map State.fb = some ⟨0x80, 0x07⟩ := by decide +kernel
theorem test_decode_reads_signals :
    answer .frDecode (withFb 0x85 0x7A) = some (.decoded 0x105 false)
    ∧ answer .frDecode (withFb 0x7F 0x07) = some (.decoded 0x3FF true) := by decide +kernel
theorem test_receive_takes_a_frame :
    (after .frRx (withRx [0x85, 0x02, 0x99])).map (fun t => (t.result, t.rx, t.fb)) =
      some (.rxStatus .ok, [0x99], ⟨0x85, 0x02⟩) := by decide +kernel
theorem test_receive_fails_by_cause :
    (after .frRx (withRx [0x7F, 0x80, 0x00])).map (fun t => (t.result, t.rx)) = some (.rxStatus .badStart, [0x80, 0x00])
    ∧ (after .frRx (withRx [0x80, 0x80, 0x00])).map (fun t => (t.result, t.rx)) = some (.rxStatus .badCont, [0x00])
    ∧ (after .frRx (withRx [0x80])).map (fun t => (t.result, t.rx)) = some (.rxStatus .underrun, [0x80]) := by
  decide +kernel
theorem test_transmit_sends_raw :
    (after .frTx (withFb 0xAA 0x05)).map State.tx = some [⟨9, [0xAA, 0x05]⟩]
    ∧ (after .frTx (withFb 0x00 0x80)).map State.tx = some [⟨9, [0x00, 0x80]⟩] := by decide +kernel

/-- DBV6: a window of 0. -/
theorem test_init_sets_the_window :
    (after (.dbInit 0 0) (withDb ⟨true, true, 7, 50⟩)).map (fun t => t.db[0]?) = some (some ⟨false, false, 0, 0⟩)
    ∧ after (.dbInit 0 0) { State.reset with dbUsed := [true, false, false, false] } = none := by decide +kernel
/-- DBV1 at 40 and 50, DBV3 at 20. -/
theorem test_process_accepts_at_the_boundary :
    answer (.dbProcess 0 40 true) (withDb ⟨false, true, 0, 50⟩) = some (.edge .none)
    ∧ answer (.dbProcess 0 50 true) (withDb ⟨false, true, 0, 50⟩) = some (.edge .toHigh)
    ∧ (after (.dbProcess 0 20 true) (withDb ⟨false, false, 10, 50⟩)).map (fun t => t.db[0]?) =
        some (some ⟨false, true, 20, 50⟩) := by decide +kernel
/-- DBV9: elapsed 49 and 50 across the wrap. -/
theorem test_process_wraps :
    answer (.dbProcess 0 0x00000021 true) (withDb ⟨false, true, 0xFFFFFFF0, 50⟩) = some (.edge .none)
    ∧ answer (.dbProcess 0 0x00000022 true) (withDb ⟨false, true, 0xFFFFFFF0, 50⟩) = some (.edge .toHigh) := by
  decide +kernel
/-- DBV8. -/
theorem test_force_writes_stable_alone :
    (after (.dbForce 0 true) State.reset).map (fun t => (t.db[0]?, t.result)) =
      some (some ⟨true, false, 0, 50⟩, .nothing)
    ∧ answer (.dbProcess 0 1000 false) (withDb ⟨true, false, 0, 50⟩) = some (.edge .toLow) := by decide +kernel
theorem test_stable : answer (.dbStable 0) (withDb ⟨true, false, 0, 50⟩) = some (.bit true) := by decide +kernel

theorem test_config_writes_the_context :
    (after (.fxConfig 0 (.timedSolid ⟨0, 0, 255⟩ 300)) State.reset).map (fun t => t.fx[0]?) =
      some (some ⟨some (.timedSolid ⟨0, 0, 255⟩ 300), none, none, none, 0⟩) := by decide +kernel
theorem test_config_refuses_an_unknown_seed :
    after (.fxConfig 0 (.flash ⟨255, 0, 0⟩ true 6)) State.reset = none := by decide +kernel
theorem test_activate_starts_a_sparkle_cycle :
    (after (.fxActivate 0 1000) (withFx .sparkle none none none)).map (fun t =>
      (t.fx[0]?).map fun c => (c.tact, c.spT0)) = some (some (some 1000, some 1000)) := by decide +kernel
theorem test_tick_solid_example :
    (after (.fxTick 0 4 999) (withFx (.solid ⟨255, 0, 0⟩) none none none)).map State.cb =
      some [(4, ⟨255, 0, 0⟩)] := by decide +kernel
/-- The Sparkle table, the draws 230 and 0: ticks at 1229, 1230, 1249, 1250. -/
theorem test_tick_sparkle_cycle :
    (after (.fxTick 0 4 1229) (withFx .sparkle (some 1000) (some 1000) (some 230))).map State.cb = some [(4, ⟨0, 0, 0⟩)]
    ∧ (after (.fxTick 0 4 1230) (withFx .sparkle (some 1000) (some 1000) (some 230))).map State.cb =
        some [(4, ⟨255, 255, 255⟩)]
    ∧ (after (.fxTick 0 4 1249) (withFx .sparkle (some 1000) (some 1000) (some 230))).map State.cb =
        some [(4, ⟨255, 255, 255⟩)]
    ∧ (after (.fxTick 0 4 1250) (withFx .sparkle (some 1000) (some 1000) (some 230))).map (fun t =>
        (t.cb, (t.fx[0]?).map Context.spT0)) = some ([(4, ⟨0, 0, 0⟩)], some (some 1250)) := by decide +kernel
/-- The TimedSolid table, and a Flash with the seed of sequencer 0 at 730. -/
theorem test_expired_timed_solid_and_flash :
    answer (.fxExpired 0 1299) (withFx (.timedSolid ⟨0, 0, 255⟩ 300) (some 1000) none none) = some (.bit false)
    ∧ answer (.fxExpired 0 1300) (withFx (.timedSolid ⟨0, 0, 255⟩ 300) (some 1000) none none) = some (.bit true)
    ∧ (after (.fxSeed 0 730) (withFx (.flash ⟨255, 0, 0⟩ true 0) none none none)).bind (answer (.fxExpired 0 829)) =
        some (.bit false)
    ∧ (after (.fxSeed 0 730) (withFx (.flash ⟨255, 0, 0⟩ true 0) none none none)).bind (answer (.fxExpired 0 830)) =
        some (.bit true) := by decide +kernel
/-- The TimedSolid table, never activated: the fault of R134 when asked whether it expired, its colour when ticked;
and a Flash whose seed was never armed. -/
theorem test_expired_without_a_timestamp_faults :
    (exec (.fxExpired 0 1000) (withFx (.timedSolid ⟨0, 0, 255⟩ 300) none none none) matches
      .fault (.noValue .tact)) = true
    ∧ (after (.fxTick 0 1 1000) (withFx (.timedSolid ⟨0, 0, 255⟩ 300) none none none)).map State.cb =
      some [(1, ⟨0, 0, 255⟩)]
    ∧ (exec (.fxExpired 0 1000) (withFx (.flash ⟨0, 0, 0⟩ false 0) none none none) matches
      .fault (.noValue .seed)) = true := by decide +kernel
theorem test_seed : (after (.fxSeed 3 730) State.reset).map (fun t => (t.sq[3]?).map Sequencer.seed) =
    some (some (some 730)) := by decide +kernel
theorem test_flash_phase :
    answer (.fxFlashPhase 829 730) State.reset = some (.bit true)
    ∧ answer (.fxFlashPhase 830 730) State.reset = some (.bit false)
    ∧ answer (.fxFlashPhase 0 0xFFFFFF9C) State.reset = some (.bit false) := by decide +kernel
theorem test_hue :
    answer (.fxHue 2550 4 8) State.reset = some (.hue 127) ∧ answer (.fxHue 9 0 8) State.reset = some (.hue 0)
    ∧ answer (.fxHue 10 0 8) State.reset = some (.hue 1) ∧ answer (.fxHue 0 2 3) State.reset = some (.hue 170) := by
  decide +kernel
theorem test_hue_index_out_of_range_is_refused :
    cause (.fxHue 0 8 8) State.reset = some (.opFault .hueIndex)
    ∧ cause (.fxHue 0 0 0) State.reset = some (.opFault .hueIndex) := by decide +kernel
/-- A Shimmer at its duration, and a Solid. -/
theorem test_level_operands_out_of_range_are_refused :
    cause (.fxShimmerLevel 0 2000) (withFx (.shimmer shimmerA) none none none) = some (.opFault .shimmerTime)
    ∧ cause (.fxShimmerLevel 0 0) State.reset = some (.opFault .notShimmer) := by decide +kernel
/-- Set A at 150 and 190, set C. -/
theorem test_shimmer_level :
    answer (.fxShimmerLevel 0 150) (withFx (.shimmer shimmerA) none none none) = some (.level 239)
    ∧ answer (.fxShimmerLevel 0 190) (withFx (.shimmer shimmerA) none none none) = some (.level 254)
    ∧ answer (.fxShimmerLevel 0 400) (withFx (.shimmer shimmerA) none none none) = some (.level 0)
    ∧ answer (.fxShimmerLevel 0 7) (withFx (.shimmer ⟨4, 1, 8, 2, 0, 0, mkRat 3 4⟩) none none none) =
        some (.level 244) := by decide +kernel
/-- Set A, activated at 5000. -/
theorem test_shimmer_tick_wraps_its_duration :
    (after (.fxTick 0 1 7100) (withFx (.shimmer shimmerA) (some 5000) none none)).map State.cb =
      some [(1, ⟨191, 191, 191⟩)] := by decide +kernel

/-- Reset with the frame buffer, the snapshot frame and DB[2] of program P5 at 75. -/
def beforeEffectEdge : State :=
  { State.reset with
    fb := ⟨0x80, 0x02⟩, snapFrame := ⟨0x80, 0x02⟩
    db := State.reset.db.set 2 ⟨false, true, 25, 50⟩ }

/-- P5 at 75. -/
theorem test_update_advances_the_mode :
    (after (.agUpdate 75 false false false false 0 0 0) beforeEffectEdge).map (fun t =>
      (t.mode, t.db[2]?, t.result)) =
      some (.rainbow, some ⟨true, true, 25, 50⟩, .edges .none .none .toHigh .none) := by decide +kernel
/-- An errored FB leaves SNAP.frame, which still feeds DB[2]; MODE wraps. -/
theorem test_update_keeps_the_last_good_frame :
    (after (.agUpdate 75 true false false true 1023 0 0)
      { beforeEffectEdge with fb := ⟨0x00, 0x00⟩, mode := .shimmer }).map (fun t =>
      (t.snapFrame, t.mode, t.snapInputs)) =
      some (⟨0x80, 0x02⟩, .none, some ⟨true, false, false, true, 1023, 0, 0⟩) := by decide +kernel
theorem test_pulse_window :
    answer (.agPulseQ 449) { State.reset with pulseStart := 400, pulseArmed := true } = some (.bit true)
    ∧ answer (.agPulseQ 450) { State.reset with pulseStart := 400, pulseArmed := true } = some (.bit false)
    ∧ answer (.agPulseQ 10) State.reset = some (.bit false) := by decide +kernel
theorem test_mode : answer .agMode { State.reset with mode := .sparkle } = some (.mode .sparkle) := by decide +kernel

/-- Reset with the frame a snapshot holds. -/
def withSnap (b0 b1 : Byte) : State := { State.reset with snapFrame := ⟨b0, b1⟩ }

/-- P4 at 0 on the boost indicator (sequencer 4): boostCritical and boostWarning set, the seed armed at 0. -/
theorem test_sequencer_enters_red_loud :
    (after (.sqTick 4 0) (withSnap 0x83 0x00)).map (fun t =>
      ((t.sq[4]?).map fun q => (q.cur, q.seed), t.cb)) =
      some (some (some 20, some 0), [(4, ⟨255, 0, 0⟩)]) := by decide +kernel
/-- R19: two roles that name one context are one reference, so the context is not re-activated. -/
theorem test_sequencer_compares_contexts :
    (after (.sqTick 0 9) { withFx (.solid ⟨1, 2, 3⟩) (some 5) none none with
      sq := State.reset.sq.set 0 ⟨.acOn, [(.on, 0), (.off, 0)], 0, some 0, none⟩ }).map (fun t =>
      ((t.fx[0]?).map Context.tact, t.cb)) = some (some (some 5), [(0, ⟨1, 2, 3⟩)]) := by decide +kernel
/-- The hazard indicator (sequencer 2) is lit while `hazardOff` is false. -/
theorem test_sequencer_hazard_is_inverted :
    (after (.sqTick 2 0) (withSnap 0x80 0x00)).map State.cb = some [(2, ⟨255, 0, 0⟩)]
    ∧ (after (.sqTick 2 0) (withSnap 0x90 0x00)).map State.cb = some [(2, ⟨0, 0, 0⟩)] := by decide +kernel

/-! ### Witnesses: states and operands that meet the hypotheses of the statements -/

/-- P4 at a time after 0: the boost indicator in a role's context, its seed at 0, its contexts activated, critical. -/
def boostIn (r : Role) : State :=
  { withSnap 0x82 0x00 with
    sq := State.reset.sq.set 4 ⟨.boost, Reset.multiSet 20, 4, (Reset.multiSet 20).lookup r, some 0⟩
    fx := State.reset.fx.map fun c => { c with tact := some 0 }
    fxUsed := List.replicate 36 true }

/-- The boost sequencer of `boostIn`. -/
def boostSeq (r : Role) : Sequencer := ⟨.boost, Reset.multiSet 20, 4, (Reset.multiSet 20).lookup r, some 0⟩

theorem witness_DecodeOfEncode : (Instr.frSetBit 9 true).WellFormed := by decide
theorem witness_WireFrame :
    (0x80 : Byte).getLsbD 7 = true ∧ (0x7F : Byte).getLsbD 7 = false ∧ ([] : List Byte).length ≠ 2 := by decide
theorem witness_OpcodeMap :
    (0x0A : Byte) ∉ ([0x00, 0x09, 0x10, 0x33] : List Byte)
    ∧ (let p : Ports := { k := 9, kind := 3, index := 7, ledCount := 8 }
       p.k.toNat < 10 ∧ p.kind = 3 ∧ p.index < p.ledCount)
    ∧ (let p : Ports := { k := 10, kind := 7, fuel := 1024 }
       ¬ p.k.toNat < 10 ∧ p.kind = 7 ∧ ¬ p.fuel.toNat ≤ 1023) := by decide
theorem witness_DecodedWellFormed : decode (.command 0x04 { k := 9 }) = .ok (.frGetBit 9) := rfl
theorem witness_StepRuns :
    (let s : State := { State.reset with queue := [.command 0x08 {}] }
     s.fatal = false ∧ s.queue = .command 0x08 {} :: [] ∧ decode (.command 0x08 {}) = .ok .frRx)
    ∧ State.reset.fatal = false ∧ decodeTableWord 16 0x8000 = some (.frame 0 0) := ⟨⟨rfl, rfl, rfl⟩, rfl, rfl⟩
/-- Arrivals that fill RX exactly and that overflow it by one byte. -/
theorem witness_Environment :
    (State.reset.fatal = false ∧ State.reset.queue = [])
    ∧ (let s : State := { withRx (List.replicate 30 0) with queue := [.wire [0x80, 0x00]] }
       s.fatal = false ∧ s.queue = .wire [0x80, 0x00] :: [] ∧ s.rx.length + 2 ≤ s.params.rxDepth)
    ∧ (let s : State := { withRx (List.replicate 31 0) with queue := [.wire [0x80, 0x00]] }
       s.fatal = false ∧ s.params.rxDepth < s.rx.length + 2)
    ∧ (let s : State := { State.reset with queue := [.takeTx 0] }
       s.fatal = false ∧ s.queue = .takeTx 0 :: []) := by decide +kernel
theorem witness_Fatal :
    (let s : State := { State.reset with fatal := true }
     s.fatal = true ∧ s.queue = [])
    ∧ (let s : State := { State.reset with fatal := true, queue := [.powerOn] }
       s.queue = .powerOn :: []) := by decide +kernel
theorem witness_ResetValues :
    (let s : State := { boostIn .redLoud with queue := [.powerOn] }
     s.queue = .powerOn :: [] ∧ s.db[0]? = some ⟨false, false, 0, 50⟩ ∧ s.sq[4]? = some (boostSeq .redLoud)
       ∧ (s.fx[1]?).isSome = true) := by decide +kernel

theorem reset_inv : State.reset.Inv :=
  ⟨by decide, by decide, by decide, rfl, by decide, by decide, by decide +kernel, rfl, rfl, by decide,
    by decide +kernel⟩
/-- From the reset state, whose invariant holds, a step that runs an operation. -/
theorem witness_StepKeepsInvariant :
    State.reset.Inv ∧ (step (State.reset.present (.command 0x33 { l := 4 })) matches .next _) = true :=
  ⟨reset_inv, by decide +kernel⟩
theorem witness_ConfigurationIsConstant :
    let s : State := (boostIn .redLoud).present (.command 0x11 { d := 3, reading := true })
    (step s matches .next _) = true ∧ s.sq[4]? = some (boostSeq .redLoud) ∧ s.fxInUse 35 = true
      ∧ (s.fx[35]?).isSome = true ∧ s.dbInUse 0 = false ∧ (s.db[0]?).isSome = true := by decide +kernel
theorem witness_ConfigurationIsConstant_debouncer_in_use :
    let s : State := { State.reset with dbUsed := [true, true, true, true], queue := [.command 0x32 {}] }
    (step s matches .next _) = true ∧ s.dbInUse 3 = true ∧ (s.db[3]?).isSome = true := by decide +kernel
theorem witness_Queries :
    (after (.frGetBit 9) State.reset).isSome = true ∧ (after .frIsError State.reset).isSome = true
    ∧ (after .frDecode State.reset).isSome = true ∧ (after (.dbStable 3) State.reset).isSome = true
    ∧ (after (.fxExpired 35 0) State.reset).isSome = true ∧ (after (.fxFlashPhase 0 1) State.reset).isSome = true
    ∧ (after (.fxHue 0 5 6) State.reset).isSome = true ∧ (after (.fxShimmerLevel 4 1999) State.reset).isSome = true
    ∧ (after (.agPulseQ 0) State.reset).isSome = true ∧ (after .agMode State.reset).isSome = true := by
  decide +kernel
/-- For SetBit and GetBit: the last index of each side. -/
theorem witness_SignalIndex :
    (9#4).toNat < 10 ∧ 10 ≤ (10#4).toNat ∧ (0#4).toNat < 10 ∧ 10 ≤ (15#4).toNat := by decide
theorem witness_EncodeAnyOrder : ([9, 8, 7, 6, 5, 4, 3, 2, 1, 0] : List Nat).Perm (List.range 10) := by decide
theorem witness_Receive :
    (withRx [0x80]).rx.length < 2
    ∧ ((withRx [0x7F, 0x80]).rx = 0x7F :: 0x80 :: [] ∧ (0x7F : Byte).getLsbD 7 = false)
    ∧ ((withRx [0x80, 0x80]).rx = 0x80 :: 0x80 :: [] ∧ (0x80 : Byte).getLsbD 7 = true)
    ∧ ((withRx [0xFF, 0x7F]).rx = 0xFF :: 0x7F :: [] ∧ (0xFF : Byte).getLsbD 7 = true
        ∧ (0x7F : Byte).getLsbD 7 = false) := by decide +kernel
theorem witness_BusRoundTrip : State.reset.rx = [] ∧ 2 ≤ State.reset.params.rxDepth := by decide
theorem witness_FrameArrives :
    (withRx (List.replicate 30 0)).rx.length + 2 ≤ (withRx (List.replicate 30 0)).params.rxDepth
    ∧ (withRx (List.replicate 31 0)).params.rxDepth < (withRx (List.replicate 31 0)).rx.length + 2 := by
  decide +kernel
theorem witness_FrameStaysWellFormed :
    (State.reset.fb.wellFormed = true ∧ (after (.frSetBit 9 true) State.reset).isSome = true)
    ∧ answer .frRx (withRx [0x80, 0x00]) = some (.rxStatus .ok) := by decide +kernel
theorem witness_AlignedFrames :
    (∀ f ∈ [(⟨0x81, 0x02⟩ : Frame), ⟨0xFF, 0x7F⟩], f.wellFormed = true)
    ∧ (withRx [0x81, 0x02, 0xFF, 0x7F, 0x80]).rx = frameBytes [⟨0x81, 0x02⟩, ⟨0xFF, 0x7F⟩] ++ [0x80]
    ∧ (withRx [0x02, 0x81, 0x02]).rx = 0x02 :: frameBytes [⟨0x81, 0x02⟩] ++ []
    ∧ (0x02 : Byte).getLsbD 7 = false := by decide +kernel
theorem witness_Resynchronises :
    (∀ h ∈ [(⟨0x81, 0x02⟩ : Frame), ⟨0x84, 0x05⟩], h.wellFormed = true)
    ∧ (withRx [0x90, 0x81, 0x02, 0x84, 0x05]).rx = [0x90] ++ frameBytes [⟨0x81, 0x02⟩, ⟨0x84, 0x05⟩] ++ [] := by
  decide +kernel
theorem witness_DebouncerInit :
    (State.reset.db[3]? = some ⟨false, false, 0, 50⟩ ∧ State.reset.dbInUse 3 = false)
    ∧ State.dbInUse { State.reset with dbUsed := [true, false, false, false] } 0 = true := by decide +kernel
/-- A reading that persisted for exactly the window, and one a millisecond short of it. -/
theorem witness_DebouncerProcess :
    let x : Debouncer := ⟨false, true, 0, 50⟩
    (withDb x).db[0]? = some x ∧ (x.tstable ≤ (50 : Time) - x.tchg ∧ true ≠ x.stable)
      ∧ ¬(x.tstable ≤ (49 : Time) - x.tchg ∧ true ≠ x.stable) := by decide +kernel
theorem witness_DebouncerForce : State.reset.db[3]? = some ⟨false, false, 0, 50⟩ := by decide +kernel
/-- The first instant and the last before the boundary; then the boundary itself; and a window of 0. -/
theorem witness_HeldStep :
    (let x : Debouncer := ⟨false, false, 0, 50⟩
     (withDb x).db[0]? = some x ∧ x.stable = !true ∧ x.prev = !true
      ∧ ([7, 56] : List Time).Forall (fun u => 7 ≤ u ∧ u - 7 < x.tstable) ∧ (7 : Time) ≤ 57 ∧ x.tstable ≤ (57 : Time) - 7
      ∧ 0 < x.tstable)
    ∧ (let x : Debouncer := ⟨true, true, 0, 0⟩
       (withDb x).db[0]? = some x ∧ x.stable = !false ∧ x.prev = !false ∧ (7 : Time) ≤ 7
        ∧ x.tstable ≤ (7 : Time) - 7 ∧ x.tstable = 0) := by decide +kernel
theorem witness_ShortExcursion :
    let x : Debouncer := ⟨false, false, 0, 50⟩
    (withDb x).db[0]? = some x ∧ x.prev = x.stable ∧ 0 < x.tstable
      ∧ ([100, 149] : List Time).Forall (fun u => 100 ≤ u ∧ u - 100 < x.tstable) := by decide +kernel
theorem witness_AlternatingNoise :
    let x : Debouncer := ⟨false, false, 0, 1⟩
    (withDb x).db[0]? = some x ∧ 0 < x.tstable
      ∧ alternates x.prev [(0, true), (1, false), (100, true)] = true := by decide +kernel

theorem witness_FxConfig :
    (State.reset.fx[35]?).isSome = true ∧ State.reset.fxInUse 35 = false
    ∧ (FxConfig.flash ⟨1, 2, 3⟩ true 5).legal = true ∧ 5 < State.reset.sq.length
    ∧ (boostIn .white).fxInUse 35 = true ∧ (FxConfig.rainbow 8 8).legal = false
    ∧ State.reset.sq.length ≤ 6 := by decide +kernel
theorem witness_Activate :
    ((State.reset.fx[0]?).map Context.config = some (some (.solid ⟨0, 255, 0⟩)))
    ∧ ((State.reset.fx[3]?).map Context.config = some (some .sparkle)) := by decide +kernel
theorem witness_TickPaintsOneSlot :
    (∃ k, State.reset.HasConfig 0 k ∧ k = .solid ⟨0, 255, 0⟩) ∧ 5 < State.reset.ledCount
    ∧ (∃ k, (withFx (.timedSolid ⟨1, 2, 3⟩ 0) none none none).HasConfig 0 k ∧ ∃ n, k = .timedSolid ⟨1, 2, 3⟩ n)
    ∧ (∃ k, State.reset.HasConfig 21 k ∧ ∃ a n, k = .flash ⟨0, 0, 0⟩ a n)
    ∧ (∃ k, State.reset.HasConfig 30 k ∧ k = .flash ⟨255, 191, 0⟩ true 5)
    ∧ (∃ k, State.reset.HasConfig 33 k ∧ k = .rainbow 6 5) :=
  ⟨⟨_, ⟨_, rfl, rfl⟩, rfl⟩, by decide, ⟨_, ⟨_, rfl, rfl⟩, _, rfl⟩, ⟨_, ⟨_, rfl, rfl⟩, _, _, rfl⟩,
    ⟨_, ⟨_, rfl, rfl⟩, rfl⟩, ⟨_, ⟨_, rfl, rfl⟩, rfl⟩⟩
theorem witness_ShimmerTick :
    let s := withFx (.shimmer shimmerA) (some 5000) none none
    s.fx[0]? = some ⟨some (.shimmer shimmerA), some 5000, none, none, 0⟩ ∧ 5 < s.ledCount ∧ 1 ≤ shimmerA.duration := by
  decide +kernel
/-- The last instant and the first past each interval of the cycle (1000, 230) with a pulse of 20. -/
theorem witness_SparkleTick :
    let s := withFx .sparkle (some 1000) (some 1000) (some 230)
    s.fx[0]? = some ⟨some .sparkle, some 1000, some 1000, some 230, 0⟩ ∧ 5 < s.ledCount
      ∧ ((1229 : Time) - 1000).toNat < (230 : Time).toNat
      ∧ ((230 : Time).toNat ≤ ((1230 : Time) - 1000).toNat
        ∧ ((1249 : Time) - 1000).toNat < (230 : Time).toNat + s.params.sparklePulseWidth)
      ∧ (230 : Time).toNat + s.params.sparklePulseWidth ≤ ((1250 : Time) - 1000).toNat := by decide +kernel
theorem witness_Expiry :
    ((State.reset.fx[0]?).map Context.config = some (some (.solid ⟨0, 255, 0⟩)))
    ∧ ((withFx (.timedSolid ⟨1, 2, 3⟩ 300) (some 1000) none none).fx[0]?).map Context.tact = some (some 1000)
    ∧ ((boostIn .redLoud).fx[20]?).map Context.config = some (some (.flash ⟨255, 0, 0⟩ true 4))
    ∧ (boostIn .redLoud).sq[4]? = some (boostSeq .redLoud) ∧ (boostSeq .redLoud).seed = some 0 := by decide +kernel
theorem witness_NeverWritten :
    (withFx (.timedSolid ⟨1, 2, 3⟩ 300) none none none).fx[0]? =
      some ⟨some (.timedSolid ⟨1, 2, 3⟩ 300), none, none, none, 0⟩
    ∧ State.reset.HasConfig 20 (.flash ⟨255, 0, 0⟩ true 4)
    ∧ ((State.reset.sq[4]?).map Sequencer.seed = some none) ∧ 0 < State.reset.ledCount
    ∧ State.reset.fx[3]? = some ⟨some .sparkle, none, none, none, 0⟩
    ∧ State.reset.fx[4]? = some ⟨some (.shimmer (Reset.shimmerOf 0)), none, none, none, 0⟩ :=
  ⟨rfl, ⟨_, rfl, rfl⟩, rfl, by decide, rfl, rfl⟩
/-- The tachometer from null, and from its white context as it expires. -/
theorem witness_NeverWritten_inputs :
    (∃ q, State.reset.sq[5]? = some q ∧ q.indicator = .tachometer ∧ State.reset.mode = .none
      ∧ State.reset.snapInputs = none ∧ State.reset.MayChoose q 0 ∧ q.cur = none)
    ∧ (let q : Sequencer := ⟨.tachometer, Reset.multiSet 28, 5, some 32, none⟩
       let s : State := { State.reset with sq := State.reset.sq.set 5 q }
       s.sq[5]? = some q ∧ s.snapInputs = none ∧ s.MayChoose q 7
        ∧ q.cur ≠ q.context .redLoud ∧ q.cur ≠ q.context .amberLoud) :=
  ⟨⟨_, rfl, rfl, rfl, rfl, .inl rfl, rfl⟩, rfl, rfl, mayChoose_of_answer (e := 32) rfl (by decide +kernel), by decide,
    by decide⟩
theorem witness_Seed : (State.reset.sq[5]?).isSome = true := by decide
theorem witness_FlashPhase :
    1 ≤ State.reset.params.flashDuration
    ∧ (true = true ↔ ((99 : Time) - 0).toNat % (2 * State.reset.params.flashDuration) < State.reset.params.flashDuration)
    ∧ (false = true ↔
        ((100 : Time) - 0).toNat % (2 * State.reset.params.flashDuration) < State.reset.params.flashDuration) := by
  decide +kernel
/-- Intervals that start in mid-phase and that end at the wrap. -/
theorem witness_FlashHalvesBalance :
    ((237 : Time) - 0).toNat + 3 * (2 * State.reset.params.flashDuration) ≤ 2 ^ 32
    ∧ ((0xFFFFFF38 : Time) - 0).toNat + 1 * (2 * State.reset.params.flashDuration) ≤ 2 ^ 32 := by decide +kernel
theorem witness_Hue :
    1 ≤ State.reset.params.rainbowPeriod ∧ 7 < 8 ∧ 8 ≤ 8
    ∧ (0xFFFFF5FF : Time).toNat + State.reset.params.rainbowPeriod < 2 ^ 32 := by decide +kernel
theorem witness_ShimmerLevel :
    State.HasConfig (withFx (.shimmer shimmerA) none none none) 0 (.shimmer shimmerA)
    ∧ (1999 : Time).toNat < shimmerA.duration ∧ shimmerA.duration ≤ (2000 : Time).toNat
    ∧ (State.reset.HasConfig 0 (.solid ⟨0, 255, 0⟩) ∧ ∀ p, FxConfig.solid ⟨0, 255, 0⟩ ≠ .shimmer p) :=
  ⟨⟨_, rfl, rfl⟩, by decide, by decide, ⟨_, rfl, rfl⟩, nofun⟩
/-- Two LEDs on one strip: the line is at distance 1 from the nearer and 2 from the farther. -/
theorem witness_ShimmerFalls :
    let far : ShimmerParams := { shimmerA with py := 3 }
    let s : State := { withFx (.shimmer shimmerA) none none none with
      fx := (withFx (.shimmer shimmerA) none none none).fx.set 1 (Context.constructed (some (.shimmer far))) }
    s.HasConfig 0 (.shimmer shimmerA) ∧ s.HasConfig 1 (.shimmer far) ∧ (100 : Time).toNat < shimmerA.duration
      ∧ (100 : Time).toNat < far.duration ∧ shimmerA.distanceFactor = far.distanceFactor
      ∧ shimmerDist2 shimmerA 100 ≤ shimmerDist2 far 100 :=
  ⟨⟨_, rfl, rfl⟩, ⟨_, rfl, rfl⟩, by decide, by decide, rfl, by decide +kernel⟩
theorem witness_ReservedInstances :
    State.reset.db.length ≤ 4 ∧ State.reset.fx.length ≤ 36 ∧ 5 < State.reset.ledCount ∧ State.reset.ledCount ≤ 6
    ∧ State.reset.sq.length ≤ 6
    ∧ (let s : State := { State.reset with fx := [Context.constructed none] }
       s.fx[0]? = some ⟨none, none, none, none, 0⟩) := by decide +kernel
theorem witness_AggregatorUpdate :
    (∃ x0 x1 x2 x3 later, beforeEffectEdge.db = x0 :: x1 :: x2 :: x3 :: later)
    ∧ (1023#16).toNat ≤ 1023 ∧ 1023 < (1024#16).toNat := ⟨⟨_, _, _, _, _, rfl⟩, by decide, by decide⟩
/-- The last instant of a pulse, the first after it, and the gate. -/
theorem witness_PulseAndMode :
    let s : State := { State.reset with pulseStart := 400, pulseArmed := true }
    (true = true ↔ s.pulseArmed = true ∧ ((449 : Time) - s.pulseStart).toNat < s.params.canPulseWidth)
    ∧ (false = true ↔ s.pulseArmed = true ∧ ((450 : Time) - s.pulseStart).toNat < s.params.canPulseWidth)
    ∧ (false = true ↔ State.reset.pulseArmed = true
        ∧ ((0 : Time) - State.reset.pulseStart).toNat < State.reset.params.canPulseWidth) := by decide +kernel
theorem witness_ModeAdvances :
    fetch (beforeEffectEdge.present (.command 0x30 { now := 75 })) =
      .run (.agUpdate 75 false false false false 0 0 0) beforeEffectEdge
    ∧ (after (.agUpdate 75 false false false false 0 0 0) beforeEffectEdge).map (fun t => (t.mode, t.result)) =
      some (.rainbow, .edges .none .none .toHigh .none) ∧ beforeEffectEdge.mode = .none := by decide +kernel
theorem witness_ModeReset :
    fetch { State.reset with mode := .sparkle, queue := [.powerOn] } =
      .quiet (State.powerOn { State.reset with mode := .sparkle }) := by decide +kernel

/-- Every SimpleLED of the reset state, from null; `lit` both ways for the AC indicator. -/
theorem witness_SimpleLed :
    ∃ q, State.reset.sq[0]? = some q ∧ State.reset.mode = .none ∧ q.slot < State.reset.ledCount
      ∧ q.indicator = .acOn ∧ State.reset.snapFrame.signal 2 = false ∧ (withSnap 0x84 0x00).snapFrame.signal 2 = true
      ∧ q.context .on = some 0 ∧ q.context .off = some 1 ∧ State.reset.HasConfig 0 (.solid ⟨0, 255, 0⟩)
      ∧ State.reset.HasConfig 1 (.solid Colour.black) ∧ State.reset.MayChoose q 0 :=
  ⟨_, rfl, rfl, by decide, rfl, by decide +kernel, by decide +kernel, rfl, rfl, ⟨_, rfl, rfl⟩, ⟨_, rfl, rfl⟩, .inl rfl⟩
theorem witness_SimpleLed_other_indicators :
    (State.reset.sq.map Sequencer.indicator).take 4 = [.acOn, .heatedRearWindow, .hazard, .rearFogger]
    ∧ (let s : State := { State.reset with
        sq := State.reset.sq.set 0 ⟨.plain, Reset.simpleSet 0, 0, some 1, none⟩ }
       ∃ q, s.sq[0]? = some q ∧ q.indicator = .plain ∧ q.cur ≠ q.context .on ∧ s.MayChoose q 7)
    ∧ (let s : State := { State.reset with
        sq := State.reset.sq.set 0 ⟨.plain, Reset.simpleSet 0, 0, some 0, none⟩ }
       ∃ q, s.sq[0]? = some q ∧ q.indicator = .plain ∧ q.cur = q.context .on ∧ s.MayChoose q 7) :=
  ⟨rfl, ⟨_, rfl, rfl, by decide, mayChoose_of_answer (e := 1) rfl (by decide +kernel)⟩,
    _, rfl, rfl, rfl, mayChoose_of_answer (e := 0) rfl (by decide +kernel)⟩
/-- The loud Flash at the last instant of its half-period, and the instant after it. -/
theorem witness_HeldThenQuiet :
    let s := boostIn .redLoud
    let q := boostSeq .redLoud
    s.sq[4]? = some q ∧ s.mode = .none ∧ q.slot < s.ledCount ∧ q.indicator = .boost
      ∧ q.context .redLoud = some 20 ∧ q.context .redQuiet = some 21 ∧ q.cur = some 20 ∧ q.seed = some 0
      ∧ s.HasConfig 20 (.flash ⟨255, 0, 0⟩ true 4) ∧ s.HasConfig 21 (.flash Colour.black false 4)
      ∧ ((99 : Time) - 0).toNat % (2 * s.params.flashDuration) < s.params.flashDuration
      ∧ s.params.flashDuration ≤ ((100 : Time) - 0).toNat % (2 * s.params.flashDuration)
      ∧ answer (.fxExpired 20 99) s = some (.bit false)
      ∧ (boostSeq .amberLoud).cur = some 22 ∧ q.context .redLoud ≠ some 22 :=
  ⟨rfl, rfl, by decide, rfl, rfl, rfl, rfl, rfl, ⟨_, rfl, rfl⟩, ⟨_, rfl, rfl⟩, by decide +kernel, by decide +kernel,
    by decide +kernel, rfl, by decide⟩
/-- From the quiet phase as it expires (boost), from null (tachometer, critical and warning, warning alone), and from
white with no alarm, which is white chosen again. -/
theorem witness_MultiBlinking :
    (let s := boostIn .redQuiet
     let q := boostSeq .redQuiet
     s.sq[4]? = some q ∧ s.snapFrame.signal 1 = true ∧ s.snapFrame.signal 0 = false
      ∧ s.HasConfig 20 (.flash ⟨255, 0, 0⟩ true 4) ∧ s.MayChoose q 200
      ∧ q.cur ≠ q.context .redLoud ∧ q.cur ≠ q.context .amberLoud ∧ q.cur = q.context .redQuiet)
    ∧ (let s : State := { State.reset with snapInputs := some ⟨false, false, true, true, 0, 0, 0⟩ }
       ∃ q, s.sq[5]? = some q ∧ q.indicator = .tachometer ∧ s.MayChoose q 0
        ∧ s.HasConfig 28 (.flash ⟨255, 0, 0⟩ true 5) ∧ s.HasConfig 30 (.flash ⟨255, 191, 0⟩ true 5)
        ∧ s.HasConfig 32 (.solid ⟨255, 255, 255⟩))
    ∧ (let s : State := { boostIn .white with snapFrame := ⟨0x80, 0x00⟩ }
       let q := boostSeq .white
       s.sq[4]? = some q ∧ s.snapFrame.signal 1 = false ∧ s.snapFrame.signal 0 = false ∧ q.cur = some 24
        ∧ q.context .white = some 24 ∧ s.MayChoose q 7 ∧ q.cur ≠ q.context .redLoud
        ∧ q.cur ≠ q.context .amberLoud) :=
  ⟨⟨rfl, by decide +kernel, by decide +kernel, ⟨_, rfl, rfl⟩,
      mayChoose_of_answer (e := 21) rfl (by decide +kernel), by decide, by decide, rfl⟩,
    ⟨_, rfl, rfl, .inl rfl, ⟨_, rfl, rfl⟩, ⟨_, rfl, rfl⟩, ⟨_, rfl, rfl⟩⟩,
    rfl, by decide +kernel, by decide +kernel, rfl, rfl, mayChoose_of_answer (e := 24) rfl (by decide +kernel),
    by decide, by decide⟩
/-- Each effect mode, from a loud phase as it expires; and from the effect context itself, chosen again. -/
theorem witness_EffectMode :
    let q := boostSeq .redLoud
    ({ boostIn .redLoud with mode := .rainbow } : State).MayChoose q 100
    ∧ (boostIn .redLoud).HasConfig 25 (.rainbow 6 4) ∧ q.context .rainbow = some 25
    ∧ (boostIn .redLoud).HasConfig 26 .sparkle ∧ q.context .sparkle = some 26
    ∧ (boostIn .redLoud).HasConfig 27 (.shimmer (Reset.shimmerOf 4)) ∧ q.context .shimmer = some 27
    ∧ q.cur ≠ some 25 ∧ (FxConfig.rainbow 6 4).legal = true ∧ (FxConfig.shimmer (Reset.shimmerOf 4)).legal = true
    ∧ q.context .redLoud ≠ some 25 ∧ q.context .amberLoud ≠ some 25
    ∧ (let s : State := { boostIn .rainbow with mode := .rainbow }
       s.sq[4]? = some (boostSeq .rainbow) ∧ (boostSeq .rainbow).cur = some 25 ∧ s.MayChoose (boostSeq .rainbow) 100
        ∧ (after (.sqTick 4 100) s).isSome = true) :=
  ⟨mayChoose_of_answer (e := 20) rfl (by decide +kernel), ⟨_, rfl, rfl⟩, rfl, ⟨_, rfl, rfl⟩, rfl, ⟨_, rfl, rfl⟩, rfl,
    by decide, rfl, rfl, by decide, by decide, rfl, rfl, mayChoose_of_answer (e := 25) rfl (by decide +kernel),
    by decide +kernel⟩
theorem witness_NoDirectChange :
    (let s := boostIn .redLoud
     (after (.sqTick 4 100) s).isSome = true ∧ s.sq[4]? = some (boostSeq .redLoud)
      ∧ (boostSeq .redLoud).indicator.isMulti = true ∧ (boostSeq .redLoud).cur = some 20)
    ∧ (after (.sqTick 4 100) (boostIn .amberLoud)).isSome = true
    ∧ (let q := boostSeq .amberLoud
       q.cur = some 22 ∧ q.context .amberLoud = some 22 ∧ q.context .redLoud ≠ q.context .amberLoud
        ∧ ∀ r ∈ [Role.redQuiet, .amberQuiet, .rainbow, .sparkle, .shimmer],
          q.context r ≠ q.context .redLoud ∧ q.context r ≠ q.context .amberLoud) := by decide +kernel
theorem witness_OwnWindow :
    (after (.sqTick 4 100) (boostIn .redLoud)).isSome = true ∧ (boostIn .redLoud).sq[4]? = some (boostSeq .redLoud)
    ∧ (∀ r ∈ [Role.on, .off, .redLoud, .redQuiet, .amberLoud, .amberQuiet, .white, .rainbow, .sparkle, .shimmer],
        (boostSeq .redLoud).context r ≠ some 28)
    ∧ (boostSeq .redLoud).cur ≠ some 28 := by decide +kernel
theorem witness_ChoiceOutsideTheSet :
    (let q : Sequencer := ⟨.acOn, [], 0, none, none⟩
     let s : State := { State.reset with sq := State.reset.sq.set 0 q }
     s.sq[0]? = some q ∧ s.MayChoose q 0 ∧ chooseNext s q = .ok .off ∧ q.context .off = none)
    ∧ (let q : Sequencer := ⟨.acOn, [(.on, 0)], 0, some 0, none⟩
       let s : State := { State.reset with sq := State.reset.sq.set 0 q }
       s.sq[0]? = some q ∧ s.MayChoose q 7 ∧ chooseNext s q = .ok .off ∧ q.context .off = none) :=
  ⟨⟨rfl, .inl rfl, rfl, rfl⟩, rfl, mayChoose_of_answer (e := 0) rfl (by decide +kernel), rfl, rfl⟩

end Sys2Proof.Tests
end

/-! SUPPORT. The two bytes of a wire frame read bit by bit, the marker classes of the decoder, and the statement
about both. -/

namespace Sys2Proof

/-! ### The bits of a frame -/

/-- Signals 0 to 6 are the bits of byte 0 (30_encoding.md R61). -/
theorem getLsbD_signalsOf_byte0 (b0 b1 : Byte) {k : Nat} (hk : k < 7) :
    (signalsOf b0 b1).getLsbD k = b0.getLsbD k := by
  have hk10 : k < 10 := by omega
  simp [signalsOf, hk, hk10]

/-- Signals 7 to 9 are the low bits of byte 1 (30_encoding.md R61). -/
theorem getLsbD_signalsOf_byte1 (b0 b1 : Byte) {k : Nat} (hk : k < 3) :
    (signalsOf b0 b1).getLsbD (7 + k) = b1.getLsbD k := by
  have h7k : 7 + k < 10 := by omega
  simp [signalsOf, hk, h7k]

/-- The spare bits are bits 3 to 6 of byte 1 (30_encoding.md R60, R63). -/
theorem getLsbD_spareOf (b1 : Byte) {k : Nat} (hk : k < 4) : (spareOf b1).getLsbD k = b1.getLsbD (3 + k) := by
  simp [spareOf, hk]

/-- Encoding the signals read from two bytes gives byte 0 back where its start marker is set. -/
theorem frameByte0_signalsOf {b0 : Byte} (b1 : Byte) (h : marker b0 = true) :
    frameByte0 (signalsOf b0 b1) = b0 := by
  apply BitVec.eq_of_getLsbD_eq
  intro k hk
  obtain hlt | rfl : k < 7 ∨ k = 7 := by omega
  · have hmark : (128#8)[k] = false := by interval_cases k <;> simp
    simp [frameByte0, hk, hlt, hmark, getLsbD_signalsOf_byte0]
  · rw [show b0.getLsbD 7 = true from h]
    exact (marker_frameBytes _ 0).1

/-- Encoding the signals and the spare bits read from two bytes gives byte 1 back where its continuation marker is
clear. -/
theorem frameByte1_signalsOf_spareOf (b0 : Byte) {b1 : Byte} (h : marker b1 = false) :
    frameByte1 (signalsOf b0 b1) (spareOf b1) = b1 := by
  apply BitVec.eq_of_getLsbD_eq
  intro k hk
  obtain hlow | ⟨hmid, hlt⟩ | rfl : k < 3 ∨ (3 ≤ k ∧ k < 7) ∨ k = 7 := by omega
  · simp [frameByte1, hk, hlow, getLsbD_signalsOf_byte1]
  · obtain ⟨j, rfl⟩ := Nat.exists_eq_add_of_le hmid
    have hj : j < 4 := by omega
    simp [frameByte1, hk, getLsbD_spareOf b1 hj]
  · rw [show b1.getLsbD 7 = false from h]
    exact (marker_frameBytes _ _).2

/-- Two bytes with the markers of a frame are what their signals and spare bits encode to. -/
theorem encode_frame_of_markers {b0 b1 : Byte} (h0 : marker b0 = true) (h1 : marker b1 = false) :
    encode (.frame (signalsOf b0 b1) (spareOf b1)) = .wire [b0, b1] := by
  simp [encode, frameByte0_signalsOf b1 h0, frameByte1_signalsOf_spareOf b0 h1]

/-! ### The marker classes (30_encoding.md R64) -/

theorem decodeWire_of_markers {b0 b1 : Byte} (h0 : marker b0 = true) (h1 : marker b1 = false) :
    decodeWire [b0, b1] = .ok (.frame (signalsOf b0 b1) (spareOf b1)) := by
  simp [decodeWire, h0, h1]

theorem decodeWire_of_start_clear {b0 : Byte} (b1 : Byte) (h0 : marker b0 = false) :
    decodeWire [b0, b1] = .error .badStart := by
  simp [decodeWire, h0]

theorem decodeWire_of_continuation_set {b0 b1 : Byte} (h0 : marker b0 = true) (h1 : marker b1 = true) :
    decodeWire [b0, b1] = .error .badContinuation := by
  simp [decodeWire, h0, h1]

theorem decodeWire_of_length_ne_two {bytes : List Byte} (h : bytes.length ≠ 2) :
    decodeWire bytes = .error .notTwoBytes := by
  unfold decodeWire
  split
  · exact absurd rfl h
  · rfl

/-- Settles O2: the four marker classes of the decoder, and in the class of frames the bits of the decoded signals
and spare bits, from which both bytes are encoded again. -/
theorem wireFrameDecodesExactly : Obligations.WireFrameDecodesExactly := by
  unfold Obligations.WireFrameDecodesExactly
  refine ⟨fun b0 b1 h0 h1 => ?frame, fun b0 b1 h0 => decodeWire_of_start_clear b1 h0,
    fun b0 b1 h0 h1 => decodeWire_of_continuation_set h0 h1, fun bytes => decodeWire_of_length_ne_two⟩
  case frame =>
    exact ⟨signalsOf b0 b1, spareOf b1, decodeWire_of_markers h0 h1, encode_frame_of_markers h0 h1,
      fun k => getLsbD_signalsOf_byte0 b0 b1, fun k => getLsbD_signalsOf_byte1 b0 b1, fun k => getLsbD_spareOf b1⟩

end Sys2Proof

/-! SUPPORT. FR_CLEAR and FR_IS_ERROR: the bits of the default frame, what the two operations do to the state, and
the statements about them. -/

namespace Sys2Proof.Machine

/-! ### The default frame (40_framer.md R80) -/

/-- No signal occupies a marker bit (40_framer.md R93). -/
theorem signalBit_lt_seven (k : Nat) : signalBit k < 7 := Nat.mod_lt k (by decide)

/-- Of byte 0 of the default frame only the marker is set, and a signal never reads the marker. -/
@[simp] theorem Frame.default_signal (k : Nat) : Frame.default.signal k = false := by
  have hb0 : ∀ i < 7, (0x80 : Byte).getLsbD i = false := by decide
  unfold Frame.signal Frame.byte
  split
  · exact hb0 _ (signalBit_lt_seven k)
  · exact BitVec.getLsbD_zero

theorem spareOf_default : spareOf Frame.default.b1 = 0 := by decide

@[simp] theorem Frame.default_isError : Frame.default.isError = false := by decide

/-! ### The two operations -/

theorem exec_frClear (s : State) : exec .frClear s = .next ((s.setFb Frame.default).ret .nothing) := rfl

theorem exec_frIsError (s : State) : exec .frIsError s = .next (s.ret (.bit s.fb.isError)) := rfl

/-- After FR_CLEAR the frame buffer is not errored (40_framer.md R80). -/
theorem exec_frIsError_after_clear (s : State) :
    exec .frIsError ((s.setFb Frame.default).ret .nothing)
      = .next (((s.setFb Frame.default).ret .nothing).ret (.bit false)) := by
  simp [exec_frIsError]

/-- Settles O14: FR_CLEAR writes the default frame, whose signals and spare bits are 0, whose markers are good and
which FR_IS_ERROR then reads as not errored. -/
theorem clearGivesTheDefaultFrame : Obligations.ClearGivesTheDefaultFrame := by
  unfold Obligations.ClearGivesTheDefaultFrame
  intro s
  refine ⟨(s.setFb Frame.default).ret .nothing, exec_frClear s, rfl, fun k _ => ?signals, ?spare, ?start, ?continuation,
    exec_frIsError_after_clear s⟩
  case signals => exact Frame.default_signal k
  case spare => exact spareOf_default
  case start => exact (by decide : Frame.default.b0.getLsbD 7 = true)
  case continuation => exact (by decide : Frame.default.b1.getLsbD 7 = false)

/-- Settles O18: FR_IS_ERROR answers `isError`, which is by definition the complement of the start marker. -/
theorem isErrorReadsOnlyTheStartMarker : Obligations.IsErrorReadsOnlyTheStartMarker := by
  unfold Obligations.IsErrorReadsOnlyTheStartMarker
  exact exec_frIsError

end Sys2Proof.Machine

/-! SUPPORT. DB_PROCESS: the steps of `process` on the registers of one debouncer, what the operation does to the
state, and the statement about it. -/

namespace Sys2Proof.Machine

/-! ### The steps of `process` (41_debouncer.md R101) -/

namespace Debouncer

variable (x : Debouncer) (now : Time) (reading : Bool)

theorem changedAt_eq : x.changedAt now reading = if reading = x.prev then x.tchg else now := by
  by_cases h : reading = x.prev <;> simp [changedAt, h]

theorem accepts_iff :
    x.accepts now reading = true ↔ x.tstable ≤ now - x.changedAt now reading ∧ reading ≠ x.stable := by
  simp [accepts, elapsed, tsub]

variable {x now reading}

theorem process_of_accepts (h : x.accepts now reading = true) :
    x.process now reading = (⟨reading, reading, x.changedAt now reading, x.tstable⟩, edgeTo reading) :=
  if_pos h

theorem process_of_not_accepts (h : ¬x.accepts now reading = true) :
    x.process now reading = (⟨x.stable, reading, x.changedAt now reading, x.tstable⟩, .none) :=
  if_neg h

end Debouncer

/-! ### The operation -/

/-- Where the bank has DB[d], DB_PROCESS answers: DB[d] is left as `process` says and marked in use, and the edge is
the result. -/
theorem exec_dbProcess {s : State} {d : Nat} {x : Debouncer} (now : Time) (reading : Bool) (hx : s.db[d]? = some x) :
    exec (.dbProcess d now reading) s
      = .next (((s.setDb d (x.process now reading).1).useDb d).ret (.edge (x.process now reading).2)) := by
  have hp : dbProcess d now reading s
      = .ok ((s.setDb d (x.process now reading).1).useDb d, (x.process now reading).2) :=
    dbProcess_eq_ok.2 ⟨x, hx, rfl, rfl⟩
  change execDbProcess d now reading s = _
  rw [execDbProcess, hp]
  rfl

/-- Settles O31: the registers and the edge are those of `process`, whose step 2 accepts the reading or does not. -/
theorem debouncerProcessFollowsTheSteps : Obligations.DebouncerProcessFollowsTheSteps := by
  unfold Obligations.DebouncerProcessFollowsTheSteps
  intro s d x now reading hx tchg htchg
  obtain rfl : tchg = x.changedAt now reading := htchg.trans (x.changedAt_eq now reading).symm
  rw [← x.accepts_iff now reading]
  refine ⟨_, exec_dbProcess now reading hx, fun h => ?accepted, fun h => ?notAccepted⟩
  case accepted => rw [Debouncer.process_of_accepts h]; rfl
  case notAccepted => rw [Debouncer.process_of_not_accepts h]; rfl

end Sys2Proof.Machine

/-! SUPPORT. FX_FLASH_PHASE: when `firstHalf` is true, what the operation does to the state, and the statement about
it. -/

namespace Sys2Proof.Machine

/-- The first half is the part of a period in which the time since the seed, modulo the period, is below
FLASH_DURATION (42_effect_engines.md R121). -/
theorem firstHalf_iff (flashDuration : Nat) (now seed : Time) :
    firstHalf flashDuration now seed = true ↔ (now - seed).toNat % (2 * flashDuration) < flashDuration := by
  simp [firstHalf, tsub]

/-- FX_FLASH_PHASE always answers, and writes the result port alone. -/
theorem exec_fxFlashPhase (now seed : Time) (s : State) :
    exec (.fxFlashPhase now seed) s = .next (s.ret (.bit (firstHalf s.params.flashDuration now seed))) :=
  rfl

/-- Settles O44: the bit with the property the statement gives it is the answer of `firstHalf`. FLASH_DURATION >= 1
only keeps the period from being 0; the model's answer is this one there too (log 28). -/
theorem flashPhaseIsTheSquareWave : Obligations.FlashPhaseIsTheSquareWave := by
  unfold Obligations.FlashPhaseIsTheSquareWave
  intro s now seed _ first hfirst
  obtain rfl : first = firstHalf s.params.flashDuration now seed :=
    Bool.eq_iff_iff.2 (hfirst.trans (firstHalf_iff _ now seed).symm)
  exact exec_fxFlashPhase now seed s

end Sys2Proof.Machine

/-! SUPPORT. MODE: the operations that keep it, what AG_UPDATE does to it, and the statement about every step. -/

namespace Sys2Proof.Machine

/-! ### The cycle -/

/-- The successor's code is the code after it, modulo 4 (30_encoding.md R69). -/
theorem EffectMode.code_succ (m : EffectMode) : m.succ.code = m.code + 1 := by
  cases m <;> rfl

/-! ### The shared operations keep MODE -/

theorem rxArrive_mode (s : State) (bytes : List Byte) : (s.rxArrive bytes).mode = s.mode := by
  rw [rxArrive_frame]

theorem receive_mode (s : State) : (receive s).1.mode = s.mode := by
  obtain ⟨-, h⟩ | ⟨b0, b1, rest, -, ⟨-, h⟩ | ⟨-, -, h⟩ | ⟨-, -, h⟩⟩ := receive_cases s
  all_goals simp [h]

theorem dbProcess_mode {d : Nat} {now : Time} {reading : Bool} {s t : State} {e : Edge}
    (h : dbProcess d now reading s = .ok (t, e)) : t.mode = s.mode := by
  obtain ⟨x, -, rfl, -⟩ := dbProcess_eq_ok.1 h
  rfl

theorem debounceScroll_mode {i : Nat} {now : Time} {s t : State} {e : Edge}
    (h : debounceScroll i now s = .ok (t, e)) : t.mode = s.mode :=
  dbProcess_mode h

theorem fxActivate_mode {e : Nat} {now : Time} {s t : State} (h : fxActivate e now s = .ok t) : t.mode = s.mode := by
  obtain ⟨c, k, -, -, rfl⟩ := fxActivate_eq_ok.1 h
  rfl

theorem fxTick_mode {e slot : Nat} {now : Time} {s t : State} (h : fxTick e slot now s = .ok t) :
    t.mode = s.mode := by
  obtain ⟨-, c, k, c', color, -, -, -, rfl⟩ := fxTick_eq_ok.1 h
  rfl

theorem fxSeed_mode {n : Nat} {now : Time} {s t : State} (h : fxSeed n now s = .ok t) : t.mode = s.mode := by
  obtain ⟨q, -, rfl⟩ := fxSeed_eq_ok.1 h
  rfl

theorem tickCurrent_mode {e slot : Nat} {now : Time} {s t : State} (h : tickCurrent e slot now s = .ok t) :
    t.mode = s.mode := by
  obtain ⟨c, k, c', color, -, -, -, -, rfl⟩ := tickCurrent_cases h
  rfl

theorem enter_mode {l e : Nat} {q : Sequencer} {now : Time} {s t : State} (hq : s.sq[l]? = some q)
    (h : enter l q e now s = .ok t) : t.mode = s.mode := by
  obtain ⟨c, k, -, -, rfl⟩ := enter_cases hq h
  rfl

theorem chooseAndTick_mode {l : Nat} {q : Sequencer} {now : Time} {s t : State} (hq : s.sq[l]? = some q)
    (h : chooseAndTick l q now s = .ok t) : t.mode = s.mode := by
  obtain ⟨nxt, -, ⟨-, rfl⟩ | ⟨e, -, ⟨-, htick⟩ | ⟨-, s', henter, htick⟩⟩⟩ := chooseAndTick_cases h
  · rfl
  · exact tickCurrent_mode htick
  · exact (tickCurrent_mode htick).trans (enter_mode hq henter)

theorem sqTick_mode {l : Nat} {now : Time} {s t : State} (h : sqTick l now s = .ok t) : t.mode = s.mode := by
  obtain ⟨q, hq, ⟨e, -, -, htick⟩ | ⟨-, hchoose⟩⟩ := sqTick_cases h
  · exact tickCurrent_mode htick
  · exact chooseAndTick_mode hq hchoose

/-! ### AG_UPDATE -/

theorem attachFrame_mode (s : State) : s.attachFrame.mode = s.mode := by
  unfold State.attachFrame
  split <;> rfl

theorem recordPulse_mode (s : State) (now : Time) (e : Edge) : (s.recordPulse now e).mode = s.mode := by
  unfold State.recordPulse
  split <;> rfl

theorem advanceMode_mode (s : State) (e : Edge) :
    (s.advanceMode e).mode = if e = .toHigh then s.mode.succ else s.mode := by
  unfold State.advanceMode
  split <;> rfl

/-- AG_UPDATE, where it answers, reports four edges and moves MODE to its successor exactly when the third is ToHigh
(43_aggregator_and_sequencer.md R151, R156). -/
theorem exec_agUpdate_mode {now : Time} {ignition dim warning critical : Bool} {fuel temperature oil : BitVec 16}
    {s t : State} (h : exec (.agUpdate now ignition dim warning critical fuel temperature oil) s = .next t) :
    ∃ e0 e1 e2 e3, t.result = .edges e0 e1 e2 e3 ∧ t.mode = if e2 = .toHigh then s.mode.succ else s.mode := by
  simp only [exec, execAgUpdate, finish_eq_next, bind_eq_ok, pure_eq_ok, Except.ok.injEq, Prod.exists] at h
  obtain ⟨_, -, _, -, _, -, s1, e0, h0, s2, e1, h1, s3, e2, h2, s4, e3, h3, rfl⟩ := h
  have hmode : s4.mode = s.mode := by
    rw [debounceScroll_mode h3, debounceScroll_mode h2, debounceScroll_mode h1, debounceScroll_mode h0,
      attachFrame_mode, State.setInputs_mode]
  refine ⟨e0, e1, e2, e3, rfl, ?_⟩
  rw [State.ret_mode, advanceMode_mode, recordPulse_mode, hmode]

/-! ### Every other operation keeps MODE -/

/-- An operation that answers has taken its first read. -/
theorem exists_ok_of_finish_bind {α : Type} {x : Except Stop α} {f : α → Except Stop State} {t : State}
    (h : finish (x >>= f) = .next t) : ∃ a, x = .ok a ∧ f a = .ok t :=
  bind_eq_ok.1 (finish_eq_next.1 h)

/-- AG_UPDATE alone writes MODE. -/
theorem exec_mode_of_ne_agUpdate {i : Instr} {s t : State} (h : exec i s = .next t)
    (hi : ∀ now a b c d f g o, i ≠ .agUpdate now a b c d f g o) : t.mode = s.mode := by
  cases i with
  | agUpdate now a b c d f g o => exact absurd rfl (hi now a b c d f g o)
  | frClear | frLoad _ _ | frLoadRaw _ _ | frIsError | frEncode _ | frDecode | frTx | fxFlashPhase _ _
  | agPulseQ _ | agMode =>
    cases h
    rfl
  | frame _ _ =>
    cases h
    exact rxArrive_mode _ _
  | frRx =>
    cases h
    exact receive_mode s
  | frSetBit _ _ | frGetBit _ | dbForce _ _ | dbStable _ | fxExpired _ _ | fxHue _ _ _ =>
    obtain ⟨_, -, ht⟩ := exists_ok_of_finish_bind h
    cases ht
    rfl
  | fxShimmerLevel _ _ =>
    obtain ⟨_, -, h⟩ := exists_ok_of_finish_bind h
    obtain ⟨_, -, ht⟩ := bind_eq_ok.1 h
    cases ht
    rfl
  | dbInit _ _ =>
    obtain ⟨_, -, h⟩ := exists_ok_of_finish_bind h
    split at h <;> cases h
    rfl
  | fxConfig _ _ =>
    obtain ⟨_, -, h⟩ := exists_ok_of_finish_bind h
    split at h
    · cases h
    · split at h <;> cases h
      rfl
  | dbProcess _ _ _ =>
    obtain ⟨⟨_, _⟩, hp, ht⟩ := exists_ok_of_finish_bind h
    cases ht
    exact (State.ret_mode _ _).trans (dbProcess_mode hp)
  | fxActivate _ _ =>
    obtain ⟨_, ha, ht⟩ := exists_ok_of_finish_bind h
    cases ht
    exact (State.ret_mode _ _).trans (fxActivate_mode ha)
  | fxTick _ _ _ =>
    obtain ⟨_, hk, ht⟩ := exists_ok_of_finish_bind h
    cases ht
    exact (State.ret_mode _ _).trans (fxTick_mode hk)
  | fxSeed _ _ =>
    obtain ⟨_, hs, ht⟩ := exists_ok_of_finish_bind h
    cases ht
    exact (State.ret_mode _ _).trans (fxSeed_mode hs)
  | sqTick _ _ => exact sqTick_mode (finish_eq_next.1 h)

/-! ### The step -/

/-- Taking an instruction from the queue keeps MODE. -/
theorem fetch_run_mode {s t : State} {i : Instr} (h : fetch s = .run i t) : t.mode = s.mode := by
  obtain ⟨-, _, rest, -, -, rfl⟩ := fetch_run h
  rfl

/-- Of the steps that run no instruction, a power-on reset alone writes MODE. -/
theorem fetch_quiet_mode {s t : State} (hr : ∀ rest, s.queue ≠ .powerOn :: rest) (h : fetch s = .quiet t) :
    t.mode = s.mode := by
  obtain ⟨-, rfl⟩ | ⟨rest, hq, -⟩ | ⟨bytes, rest, -, rfl⟩ | ⟨n, rest, -, rfl⟩ := fetch_quiet h
  · rfl
  · exact absurd hq (hr rest)
  · exact rxArrive_mode _ _
  · rfl

/-- Outside reset, a step that changes MODE runs an AG_UPDATE. -/
theorem step_agUpdate_of_mode_ne {s t : State} (hr : ∀ rest, s.queue ≠ .powerOn :: rest) (h : step s = .next t)
    (hm : t.mode ≠ s.mode) :
    ∃ now a b c d f g o s', fetch s = .run (.agUpdate now a b c d f g o) s' := by
  obtain ⟨i, s', hf, he⟩ | hf := step_cases h
  · by_contra hno
    refine hm ((exec_mode_of_ne_agUpdate he ?_).trans (fetch_run_mode hf))
    rintro now a b c d f g o rfl
    exact hno ⟨now, a, b, c, d, f, g, o, s', hf⟩
  · exact absurd (fetch_quiet_mode hr hf) hm

/-- What a step that runs an AG_UPDATE does to MODE, by the edges it reports. -/
theorem step_agUpdate_mode {now : Time} {a b c d : Bool} {f g o : BitVec 16} {s s' t : State}
    (hf : fetch s = .run (.agUpdate now a b c d f g o) s') (h : step s = .next t) :
    ∃ e0 e1 e2 e3, t.result = .edges e0 e1 e2 e3 ∧ t.mode = if e2 = .toHigh then s.mode.succ else s.mode := by
  have he : exec (.agUpdate now a b c d f g o) s' = .next t := by
    rw [step, hf] at h
    exact h
  rw [← fetch_run_mode hf]
  exact exec_agUpdate_mode he

/-- Settles O53: only a reset and AG_UPDATE write MODE, and AG_UPDATE moves it to its successor exactly when the
effect-scroll edge it reports is ToHigh. -/
theorem modeAdvancesOnlyOnEffectScroll : Obligations.ModeAdvancesOnlyOnEffectScroll := by
  unfold Obligations.ModeAdvancesOnlyOnEffectScroll
  intro s t hr hstep
  refine ⟨fun hm => ?onlyThen, fun now a b c d f g o s' e0 e1 e3 hf hres => ?always⟩
  case onlyThen =>
    obtain ⟨now, a, b, c, d, f, g, o, s', hf⟩ := step_agUpdate_of_mode_ne hr hstep hm
    obtain ⟨e0, e1, e2, e3, hres, hmode⟩ := step_agUpdate_mode hf hstep
    have hedge : e2 = .toHigh := by
      by_contra hne
      exact hm (hmode.trans (if_neg hne))
    subst hedge
    exact ⟨now, a, b, c, d, f, g, o, s', e0, e1, e3, hf, hres, by rw [hmode, if_pos rfl, EffectMode.code_succ]⟩
  case always =>
    obtain ⟨_, _, e2, _, hedges, hmode⟩ := step_agUpdate_mode hf hstep
    cases hedges.symm.trans hres
    rw [hmode, if_pos rfl, EffectMode.code_succ]

end Sys2Proof.Machine

/-! SUPPORT. The decoder: the round trip through the encoder, what decodes, and the rows of the opcode table. -/

namespace Sys2Proof

/-! ### The round trip -/

/-- Settles O1: each constructor's round trip is its law; only the wire frame's is more than reading back the ports. -/
theorem decodeOfEncodeGivesInstructionBack : Obligations.DecodeOfEncodeGivesInstructionBack := by
  unfold Obligations.DecodeOfEncodeGivesInstructionBack
  intro i hw
  cases i with
  | frame signals spare => exact Laws.RoundTrip.frame signals spare hw
  | frClear => exact Laws.RoundTrip.frClear hw
  | frLoad in0 in1 => exact Laws.RoundTrip.frLoad in0 in1 hw
  | frLoadRaw in0 in1 => exact Laws.RoundTrip.frLoadRaw in0 in1 hw
  | frSetBit k v => exact Laws.RoundTrip.frSetBit k v hw
  | frGetBit k => exact Laws.RoundTrip.frGetBit k hw
  | frIsError => exact Laws.RoundTrip.frIsError hw
  | frEncode vec => exact Laws.RoundTrip.frEncode vec hw
  | frDecode => exact Laws.RoundTrip.frDecode hw
  | frRx => exact Laws.RoundTrip.frRx hw
  | frTx => exact Laws.RoundTrip.frTx hw
  | dbInit d window => exact Laws.RoundTrip.dbInit d window hw
  | dbProcess d now reading => exact Laws.RoundTrip.dbProcess d now reading hw
  | dbForce d value => exact Laws.RoundTrip.dbForce d value hw
  | dbStable d => exact Laws.RoundTrip.dbStable d hw
  | fxConfig e config => exact Laws.RoundTrip.fxConfig e config hw
  | fxActivate e now => exact Laws.RoundTrip.fxActivate e now hw
  | fxTick e slot now => exact Laws.RoundTrip.fxTick e slot now hw
  | fxExpired e now => exact Laws.RoundTrip.fxExpired e now hw
  | fxSeed n now => exact Laws.RoundTrip.fxSeed n now hw
  | fxFlashPhase now seed => exact Laws.RoundTrip.fxFlashPhase now seed hw
  | fxHue now index ledCount => exact Laws.RoundTrip.fxHue now index ledCount hw
  | fxShimmerLevel e t => exact Laws.RoundTrip.fxShimmerLevel e t hw
  | agUpdate now a b c d f g o => exact Laws.RoundTrip.agUpdate now a b c d f g o hw
  | agPulseQ now => exact Laws.RoundTrip.agPulseQ now hw
  | agMode => exact Laws.RoundTrip.agMode hw
  | sqTick l now => exact Laws.RoundTrip.sqTick l now hw

/-! ### What decodes -/

/-- A row that is read is accepted exactly when its operands are well formed (30_encoding.md R67). -/
theorem decodeCommand_of_read {op : Byte} {p : Ports} {i : Instr} (h : readCommand op p = .ok i) :
    decodeCommand op p = if i.WellFormed then .ok i else .error i.reservedOperand := by
  simp only [decodeCommand, h]

theorem decodeCommand_of_read_error {op : Byte} {p : Ports} {r : Reserved} (h : readCommand op p = .error r) :
    decodeCommand op p = .error r := by
  simp only [decodeCommand, h]

theorem wellFormed_of_decodeCommand {op : Byte} {p : Ports} {i : Instr} (h : decodeCommand op p = .ok i) :
    i.WellFormed := by
  cases hr : readCommand op p with
  | error r => rw [decodeCommand_of_read_error hr] at h; cases h
  | ok j =>
    rw [decodeCommand_of_read hr] at h
    split at h
    · next hj => cases h; exact hj
    · cases h

/-- Bytes that decode are a frame's own two bytes (30_encoding.md R60). -/
theorem decodeWire_eq_ok {bytes : List Byte} {i : Instr} (h : decodeWire bytes = .ok i) :
    ∃ signals spare, i = .frame signals spare ∧ bytes = [frameByte0 signals, frameByte1 signals spare] := by
  unfold decodeWire at h
  split at h
  · next b0 b1 =>
    split at h
    · cases h
    · next h0 =>
      split at h
      · cases h
      · next h1 =>
        cases h
        exact ⟨_, _, rfl, by
          rw [frameByte0_signalsOf b1 (by simpa using h0), frameByte1_signalsOf_spareOf b0 (by simpa using h1)]⟩
  · cases h

/-- Settles O4: `decodeCommand` checks what it reads, and a frame is well formed whatever its bits. -/
theorem decodedInstructionsAreWellFormed : Obligations.DecodedInstructionsAreWellFormed := by
  unfold Obligations.DecodedInstructionsAreWellFormed
  intro x i h
  cases x with
  | command op p =>
    cases hd : decodeCommand op p with
    | ok j => simp only [decode, hd] at h; cases h; exact wellFormed_of_decodeCommand hd
    | error r => simp [decode, hd] at h
  | wire bytes =>
    obtain ⟨signals, spare, rfl, -⟩ := decodeWire_eq_ok h
    rfl
  | takeTx n => cases h
  | powerOn => cases h

/-! ### The rows of the opcode table (30_encoding.md R66) -/

/-- An opcode whose number is that of no row is reserved whatever the ports hold. -/
theorem readCommand_of_no_row {op : Byte} (p : Ports)
    (h : op.toNat ∉ [0x00, 0x01, 0x02, 0x03, 0x04, 0x05, 0x06, 0x07, 0x08, 0x09, 0x10, 0x11, 0x12, 0x13,
      0x20, 0x21, 0x22, 0x23, 0x24, 0x25, 0x26, 0x27, 0x30, 0x31, 0x32, 0x33]) :
    readCommand op p = .error .unknownOpcode := by
  unfold readCommand
  split
  iterate 26 next hop => exact absurd (by rw [hop]; decide) h
  rfl

/-- FX_CONFIG of a kind that names a configuration (30_encoding.md R70). -/
theorem decodeCommand_fxConfig {p : Ports} {k : FxConfig} (h : decodeFxConfig p = .ok k) :
    decodeCommand 0x20 p = if k.legal = true then .ok (.fxConfig p.e k) else .error .badConfiguration := by
  have hr : readCommand 0x20 p = .ok (.fxConfig p.e k) := congrArg (Except.map (Instr.fxConfig p.e)) h
  exact decodeCommand_of_read hr

theorem decodeCommand_fxConfig_of_legal {p : Ports} {k : FxConfig} (h : decodeFxConfig p = .ok k)
    (hk : k.legal = true) : decodeCommand 0x20 p = .ok (.fxConfig p.e k) := by
  rw [decodeCommand_fxConfig h, if_pos hk]

theorem decodeCommand_fxConfig_error {p : Ports} {r : Reserved} (h : decodeFxConfig p = .error r) :
    decodeCommand 0x20 p = .error r :=
  decodeCommand_of_read_error (congrArg (Except.map (Instr.fxConfig p.e)) h)

theorem rainbow_legal_iff {ledCount index : Nat} :
    (FxConfig.rainbow ledCount index).legal = true ↔ index < ledCount := by
  rw [FxConfig.legal, Bool.and_eq_true, decide_eq_true_eq, decide_eq_true_eq]
  omega

theorem shimmer_legal_iff {q : ShimmerParams} : (FxConfig.shimmer q).legal = true ↔ 1 ≤ q.duration :=
  decide_eq_true_iff

theorem agUpdate_wellFormed_iff {now : Time} {a b c d : Bool} {f g o : BitVec 16} :
    (Instr.agUpdate now a b c d f g o).WellFormed ↔ f.toNat ≤ 1023 ∧ g.toNat ≤ 1023 ∧ o.toNat ≤ 1023 := by
  simp only [Instr.WellFormed, Instr.wellFormed, Bool.and_eq_true, decide_eq_true_eq]
  exact and_assoc

/-- Settles O3: an opcode off the table is reserved; a row is read from its ports and accepted when it is well formed,
FX_CONFIG by the kind code it carries. -/
theorem opcodeMapIsExactlyTheTable : Obligations.OpcodeMapIsExactlyTheTable := by
  unfold Obligations.OpcodeMapIsExactlyTheTable
  intro rows
  refine ⟨fun op p hop => ?reserved, fun p => ⟨?framer, ?debouncer, ?config, ?effects, ?wrapper⟩⟩
  case reserved =>
    refine decodeCommand_of_read_error (readCommand_of_no_row p fun hmem => hop ?_)
    exact (List.mem_map_of_injective fun _ _ h => BitVec.eq_of_toNat_eq h).1
      (show op.toNat ∈ rows.map BitVec.toNat from hmem)
  case framer =>
    have hbit : ∀ k v, (Instr.frSetBit k v).WellFormed ↔ k.toNat < 10 := fun _ _ => decide_eq_true_iff
    have hget : ∀ k, (Instr.frGetBit k).WellFormed ↔ k.toNat < 10 := fun _ => decide_eq_true_iff
    refine ⟨rfl, rfl, rfl, ?_, ?_, rfl, rfl, rfl, rfl, rfl⟩
    · exact (decodeCommand_of_read rfl).trans (if_congr (hbit p.k p.v) rfl rfl)
    · exact (decodeCommand_of_read rfl).trans (if_congr (hget p.k) rfl rfl)
  case debouncer => exact ⟨rfl, rfl, rfl, rfl⟩
  case config =>
    refine ⟨fun h => ?_, fun h => ?_, fun h => ?_, fun h => ?_, fun h => ?_, fun h => ?_, fun h => ?_⟩
    · exact decodeCommand_fxConfig_of_legal (by simp [decodeFxConfig, h]) rfl
    · exact decodeCommand_fxConfig_of_legal (by simp [decodeFxConfig, h]) rfl
    · exact decodeCommand_fxConfig_of_legal (by simp [decodeFxConfig, h]) rfl
    · exact (decodeCommand_fxConfig (by simp [decodeFxConfig, h])).trans (if_congr rainbow_legal_iff rfl rfl)
    · exact decodeCommand_fxConfig_of_legal (by simp [decodeFxConfig, h]) rfl
    · exact (decodeCommand_fxConfig (by simp [decodeFxConfig, h])).trans (if_congr shimmer_legal_iff rfl rfl)
    · obtain h | h := h <;> exact decodeCommand_fxConfig_error (by simp [decodeFxConfig, h])
  case effects => exact ⟨rfl, rfl, rfl, rfl, rfl, rfl, rfl⟩
  case wrapper =>
    refine ⟨?_, rfl, rfl, rfl⟩
    exact (decodeCommand_of_read rfl).trans (if_congr agUpdate_wellFormed_iff rfl rfl)

/-- Settles O5: each word is a literal, and the decoder computes. -/
theorem sampleWordsDecode : Obligations.SampleWordsDecode := by
  unfold Obligations.SampleWordsDecode
  decide

end Sys2Proof

/-! SUPPORT. What an operation can write: every operation that answers is a run of elementary writes, each of which
keeps the configuration and the invariant. -/

namespace Sys2Proof.Machine

/-! ### Elementary writes -/

/-- One write of an operation, of FB only where `frame` allows it. What the invariant asks of the value written is asked
of it here, in a state that meets the invariant; `ports` are the registers of which neither the invariant nor the
configuration speaks. -/
inductive Write (frame : Bool) (s : State) : State → Prop where
  | ports (rxDraws : Nat) (tx : List Transaction) (mode : EffectMode) (pulseStart : Time)
      (pulseArmed fatal : Bool) (result : Result) (queue : List Input) :
      Write frame s { s with rxDraws, tx, mode, pulseStart, pulseArmed, fatal, result, queue }
  | fb (fb : Frame) (fbDraws : Nat) (hframe : frame = true) : Write frame s { s with fb, fbDraws }
  | rx {bytes : List Byte} (hfits : s.Inv → bytes.length ≤ s.params.rxDepth) : Write frame s (s.setRx bytes)
  | inputs {i : RawInputs} (hlevels : i.ok = true) : Write frame s (s.setInputs i)
  | snapFrame {f : Frame} (hgood : f.isError = false) : Write frame s (s.setSnapFrame f)
  | paint {slot : Nat} (color : Colour) (hslot : slot < s.ledCount) : Write frame s (s.paint slot color)
  | debouncer {d : Nat} {x y : Debouncer} (hx : s.db[d]? = some x)
      (hwindow : s.dbInUse d = true → y.tstable = x.tstable) : Write frame s (s.setDb d y)
  | useDb (d : Nat) : Write frame s (s.useDb d)
  | context {e : Nat} {c c' : Context} (hc : s.fx[e]? = some c)
      (hkeep : s.fxInUse e = true → c'.config = c.config ∧ (c.tact.isSome = true → c'.tact.isSome = true))
      (hok : s.Inv → s.contextOk c' = true) : Write frame s (s.setFx e c')
  | useFx (e : Nat) : Write frame s (s.useFx e)
  | sequencer {l : Nat} {q : Sequencer} (cur : Option Nat) (seed : Option Time) (hq : s.sq[l]? = some q)
      (hcur : s.Inv → s.currentOk { q with cur := cur, seed := seed } = true) :
      Write frame s (s.setSq l { q with cur := cur, seed := seed })

/-- A run of writes. -/
abbrev Writes (frame : Bool) : State → State → Prop := Relation.ReflTransGen (Write frame)

/-- The operations that write FB (40_framer.md R80 to R89). -/
def writesFrame : Instr → Bool
  | .frClear | .frLoad _ _ | .frLoadRaw _ _ | .frSetBit _ _ | .frEncode _ | .frRx => true
  | _ => false

section

variable {frame : Bool}

theorem Write.run {s t : State} (h : Write frame s t) : Writes frame s t := .single h

/-- A change of registers of which neither the invariant nor the configuration speaks is one write. -/
theorem writes_of_frame {s t : State} (h : t = { s with
    rxDraws := t.rxDraws, tx := t.tx, mode := t.mode, pulseStart := t.pulseStart
    pulseArmed := t.pulseArmed, fatal := t.fatal, result := t.result, queue := t.queue }) : Writes frame s t := by
  rw [h]
  exact (Write.ports ..).run

/-! ### Bank entries after a write -/

/-- A property of entry `j` survives the replacement of entry `i` if the new entry has it where `i` is `j`. -/
theorem exists_getElem?_set {α : Type} {xs : List α} {i j : Nat} {a x : α} {P : α → Prop} (hj : xs[j]? = some x)
    (hx : i ≠ j → P x) (ha : i = j → P a) : ∃ y, (xs.set i a)[j]? = some y ∧ P y := by
  by_cases hij : i = j
  · subst hij
    obtain ⟨hlt, -⟩ := List.getElem?_eq_some_iff.1 hj
    exact ⟨a, List.getElem?_set_self hlt, ha rfl⟩
  · exact ⟨x, (List.getElem?_set_ne hij).trans hj, hx hij⟩

/-- Setting a usage mark clears none. -/
theorem getD_set_true {marks : List Bool} (i : Nat) {j : Nat} (h : marks.getD j false = true) :
    (marks.set i true).getD j false = true := by
  rw [List.getD_eq_getElem?_getD] at h ⊢
  cases hj : marks[j]? with
  | none => simp [hj] at h
  | some b =>
    have hb : b = true := by simpa [hj] using h
    obtain ⟨b', hb', htrue⟩ := exists_getElem?_set (i := i) (a := true) (P := (· = true)) hj (fun _ => hb) fun _ => rfl
    simp [hb', htrue]

theorem fxInUse_useFx {s : State} (i : Nat) {e : Nat} (h : s.fxInUse e = true) : (s.useFx i).fxInUse e = true :=
  getD_set_true i h

theorem dbInUse_useDb {s : State} (i : Nat) {d : Nat} (h : s.dbInUse d = true) : (s.useDb i).dbInUse d = true :=
  getD_set_true i h

theorem fxInUse_useFx_self {s : State} {e : Nat} (h : e < s.fxUsed.length) : (s.useFx e).fxInUse e = true := by
  simp [State.fxInUse, List.getElem?_set_self h]

/-! ### What the invariant asks of a context and of a sequencer -/

theorem currentOk_iff {s : State} {q : Sequencer} :
    s.currentOk q = true ↔ ∀ e, q.cur = some e → q.set.any (fun p => p.2 == e) = true ∧ s.fxInUse e = true
      ∧ ∃ c, s.fx[e]? = some c ∧ c.config.isSome = true ∧ c.tact.isSome = true := by
  unfold State.currentOk
  cases hcur : q.cur with
  | none => simp
  | some e => cases hc : s.fx[e]? <;> simp [hc, and_assoc]

theorem contextOk_iff {s : State} {c : Context} :
    s.contextOk c = true ↔ (∀ k, c.config = some k → s.configOk k = true)
      ∧ (∀ d, c.spDark = some d → d.toNat ≤ Config.sparkleMaxDark s.params.flashDuration)
      ∧ c.spT0.isSome = c.spDark.isSome := by
  simp [State.contextOk, Option.all_eq_true, and_assoc]

/-- What `contextOk` reads of a state: the parameters and LED_COUNT. -/
theorem contextOk_congr {s t : State} (c : Context) (hparams : t.params = s.params)
    (hlen : t.sq.length = s.sq.length) : t.contextOk c = s.contextOk c := by
  have hconfig : t.configOk = s.configOk := by
    funext k
    simp only [State.configOk, hlen]
  rw [State.contextOk, State.contextOk, hparams, hconfig]

theorem contextOk_of_getElem? {s : State} (hs : s.Inv) {e : Nat} {c : Context} (hc : s.fx[e]? = some c) :
    s.contextOk c = true :=
  hs.contexts c (List.mem_of_getElem? hc)

theorem currentOk_of_getElem? {s : State} (hs : s.Inv) {l : Nat} {q : Sequencer} (hq : s.sq[l]? = some q) :
    s.currentOk q = true :=
  hs.currents q (List.mem_of_getElem? hq)

/-- A drawn dark interval is in range (42_effect_engines.md R127). -/
theorem contextOk_roll {s : State} {c : Context} (e : Nat) (now : Time) (h : s.contextOk c = true) :
    s.contextOk (c.roll s.params.flashDuration e now) = true := by
  obtain ⟨hconfig, -, -⟩ := contextOk_iff.1 h
  refine contextOk_iff.2 ⟨hconfig, fun d hd => ?_, rfl⟩
  cases hd
  exact drawDark_le _ _ _

theorem contextOk_activate {s : State} {c : Context} (k : FxConfig) (e : Nat) (now : Time)
    (h : s.contextOk c = true) : s.contextOk (c.activate k s.params.flashDuration e now) = true := by
  cases k with
  | sparkle => exact contextOk_roll e now h
  | solid _ | timedSolid _ _ | flash _ _ _ | rainbow _ _ | shimmer _ => exact h

theorem contextOk_of_tickOf {s : State} {e : Nat} {c c' : Context} {k : FxConfig} {now : Time} {color : Colour}
    (ht : tickOf s.params e c k now = .ok (c', color)) (h : s.contextOk c = true) : s.contextOk c' = true := by
  obtain rfl | ⟨-, rfl⟩ := tickOf_context ht
  · exact h
  · exact contextOk_roll e now h

/-- A tick keeps a context's configuration and its activation time. -/
theorem tickOf_keeps {p : Config.Params} {e : Nat} {c c' : Context} {k : FxConfig} {now : Time} {color : Colour}
    (ht : tickOf p e c k now = .ok (c', color)) : c'.config = c.config ∧ c'.tact = c.tact := by
  obtain rfl | ⟨-, rfl⟩ := tickOf_context ht
  · exact ⟨rfl, rfl⟩
  · exact ⟨rfl, rfl⟩

theorem process_tstable (x : Debouncer) (now : Time) (reading : Bool) :
    (x.process now reading).1.tstable = x.tstable := by
  unfold Debouncer.process
  split <;> rfl

/-! ### The shared operations as runs of writes -/

theorem writes_ret (s : State) (r : Result) : Writes frame s (s.ret r) := writes_of_frame rfl

/-- An arrival leaves at most RX_DEPTH bytes, and does not change RX_DEPTH. -/
theorem rxArrive_length_le (s : State) (bytes : List Byte) : (s.rxArrive bytes).rx.length ≤ s.params.rxDepth := by
  have h := rxArrive_fits s bytes
  rw [rxArrive_frame] at h
  exact h

theorem writes_rxArrive (s : State) (bytes : List Byte) : Writes frame s (s.rxArrive bytes) := by
  rw [rxArrive_frame]
  exact (Write.rx fun _ => rxArrive_length_le s bytes).run.trans (writes_of_frame rfl)

theorem writes_receive (s : State) : Writes true s (receive s).1 := by
  have hpop : ∀ {rest : List Byte}, rest.length ≤ s.rx.length → Writes true s (s.setRx rest) := fun hle =>
    (Write.rx fun hs => hle.trans hs.rxFits).run
  obtain ⟨-, h⟩ | ⟨b0, b1, rest, hrx, ⟨-, h⟩ | ⟨-, -, h⟩ | ⟨-, -, h⟩⟩ := receive_cases s
  all_goals rw [h]
  · exact (Write.fb _ _ rfl).run
  · exact (hpop (rest := b1 :: rest) (by simp [hrx])).trans (Write.fb _ _ rfl).run
  · exact (hpop (rest := rest) (by simp [hrx]; omega)).trans (Write.fb _ _ rfl).run
  · exact (hpop (rest := rest) (by simp [hrx]; omega)).trans (Write.fb _ _ rfl).run

theorem writes_dbProcess {d : Nat} {now : Time} {reading : Bool} {s t : State} {e : Edge}
    (h : dbProcess d now reading s = .ok (t, e)) : Writes frame s t := by
  obtain ⟨x, hx, rfl, -⟩ := dbProcess_eq_ok.1 h
  exact (Write.debouncer hx fun _ => process_tstable x now reading).run.tail (.useDb d)

theorem writes_fxActivate {e : Nat} {now : Time} {s t : State} (h : fxActivate e now s = .ok t) : Writes frame s t := by
  obtain ⟨c, k, hc, -, rfl⟩ := fxActivate_eq_ok.1 h
  obtain ⟨hconfig, htact⟩ := activate_config c k s.params.flashDuration e now
  refine (Write.context hc (fun _ => ⟨hconfig, fun _ => by rw [htact]; rfl⟩) fun hs => ?_).run.tail (.useFx e)
  exact contextOk_activate k e now (contextOk_of_getElem? hs hc)

theorem writes_tick {e slot : Nat} {now : Time} {s : State} {c c' : Context} {k : FxConfig} {color : Colour}
    (hslot : slot < s.ledCount) (hc : s.fx[e]? = some c) (ht : tickOf s.params e c k now = .ok (c', color)) :
    Writes frame s (((s.setFx e c').paint slot color).useFx e) := by
  obtain ⟨hconfig, htact⟩ := tickOf_keeps ht
  have hcontext : Write frame s (s.setFx e c') := .context hc (fun _ => ⟨hconfig, fun h => htact ▸ h⟩) fun hs =>
    contextOk_of_tickOf ht (contextOk_of_getElem? hs hc)
  exact (hcontext.run.tail (.paint color hslot)).tail (.useFx e)

theorem writes_fxTick {e slot : Nat} {now : Time} {s t : State} (h : fxTick e slot now s = .ok t) : Writes frame s t := by
  obtain ⟨hslot, c, k, c', color, hc, -, ht, rfl⟩ := fxTick_eq_ok.1 h
  exact writes_tick hslot hc ht

theorem writes_fxSeed {n : Nat} {now : Time} {s t : State} (h : fxSeed n now s = .ok t) : Writes frame s t := by
  obtain ⟨q, hq, rfl⟩ := fxSeed_eq_ok.1 h
  exact (Write.sequencer q.cur (some now) hq fun hs => show s.currentOk q = true from currentOk_of_getElem? hs hq).run

theorem writes_tickCurrent {e slot : Nat} {now : Time} {s t : State} (h : tickCurrent e slot now s = .ok t) :
    Writes frame s t := by
  obtain ⟨c, k, c', color, hslot, hc, -, ht, rfl⟩ := tickCurrent_cases h
  exact (writes_tick hslot hc ht).trans (writes_ret _ _)

/-- Entering a context of the set activates it and then makes it current. -/
theorem writes_enter {l e : Nat} {q : Sequencer} {now : Time} {s t : State} (hq : s.sq[l]? = some q)
    (hset : q.set.any (fun p => p.2 == e) = true) (h : enter l q e now s = .ok t) : Writes frame s t := by
  obtain ⟨c, k, hc, hk, rfl⟩ := enter_cases hq h
  have ha : fxActivate e now s = .ok ((s.setFx e (c.activate k s.params.flashDuration e now)).useFx e) :=
    fxActivate_eq_ok.2 ⟨c, k, hc, hk, rfl⟩
  obtain ⟨hlt, -⟩ := List.getElem?_eq_some_iff.1 hc
  obtain ⟨hconfig, htact⟩ := activate_config c k s.params.flashDuration e now
  refine (writes_fxActivate ha).tail (.sequencer (some e) (if q.rearms e then some now else q.seed) hq fun hs => ?_)
  refine currentOk_iff.2 fun e' he' => ?_
  obtain rfl : e = e' := Option.some.inj he'
  obtain ⟨-, -, hmarks⟩ := hs.banks
  have hlen : s.fxUsed.length = s.fx.length := by simpa using hmarks
  exact ⟨hset, fxInUse_useFx_self (hlt.trans_eq hlen.symm), _, List.getElem?_set_self hlt, by rw [hconfig, hk]; rfl,
    by rw [htact]; rfl⟩

theorem writes_chooseAndTick {l : Nat} {q : Sequencer} {now : Time} {s t : State} (hq : s.sq[l]? = some q)
    (h : chooseAndTick l q now s = .ok t) : Writes frame s t := by
  obtain ⟨nxt, -, ⟨-, rfl⟩ | ⟨e, hctx, ⟨-, htick⟩ | ⟨-, s', henter, htick⟩⟩⟩ := chooseAndTick_cases h
  · exact writes_of_frame rfl
  · exact writes_tickCurrent htick
  · exact (writes_enter hq (mem_set_of_context hctx) henter).trans (writes_tickCurrent htick)

theorem writes_sqTick {l : Nat} {now : Time} {s t : State} (h : sqTick l now s = .ok t) : Writes frame s t := by
  obtain ⟨q, hq, ⟨e, -, -, htick⟩ | ⟨-, hchoose⟩⟩ := sqTick_cases h
  · exact writes_tickCurrent htick
  · exact writes_chooseAndTick hq hchoose

theorem writes_attachFrame (s : State) : Writes frame s s.attachFrame := by
  unfold State.attachFrame
  split
  · exact .refl
  · next h => exact (Write.snapFrame (Bool.not_eq_true _ ▸ h)).run

theorem writes_recordPulse (s : State) (now : Time) (e : Edge) : Writes frame s (s.recordPulse now e) := by
  unfold State.recordPulse
  split
  · exact writes_of_frame rfl
  · exact .refl

theorem writes_advanceMode (s : State) (e : Edge) : Writes frame s (s.advanceMode e) := by
  unfold State.advanceMode
  split
  · exact writes_of_frame rfl
  · exact .refl

theorem writes_agUpdate {now : Time} {a b c d : Bool} {f g o : BitVec 16} {s t : State}
    (h : exec (.agUpdate now a b c d f g o) s = .next t) : Writes frame s t := by
  simp only [exec, execAgUpdate, finish_eq_next, bind_eq_ok, pure_eq_ok, Except.ok.injEq, Prod.exists,
    analogOperand_eq_ok] at h
  obtain ⟨_, hf, _, hg, _, ho, s1, e0, h0, s2, e1, h1, s3, e2, h2, s4, e3, h3, rfl⟩ := h
  have hlevels : (⟨a, b, c, d, f, g, o⟩ : RawInputs).ok = true := by
    simp only [RawInputs.ok, Bool.and_eq_true, decide_eq_true_eq]
    exact ⟨⟨hf, hg⟩, ho⟩
  calc
    Writes frame s _ := (Write.inputs hlevels).run
    Writes frame _ _ := writes_attachFrame _
    Writes frame _ s1 := writes_dbProcess h0
    Writes frame s1 s2 := writes_dbProcess h1
    Writes frame s2 s3 := writes_dbProcess h2
    Writes frame s3 s4 := writes_dbProcess h3
    Writes frame s4 _ := writes_recordPulse s4 now e0
    Writes frame _ _ := writes_advanceMode _ e2
    Writes frame _ _ := writes_ret _ _

end

/-- Every operation that answers is a run of writes, and FB is among them only in the six operations of the framer that
write it. -/
theorem exec_writes {i : Instr} {s t : State} (h : exec i s = .next t) : Writes (writesFrame i) s t := by
  have hframe : ∀ f, Writes true s ((s.setFb f).ret .nothing) := fun f =>
    (Write.fb f s.fbDraws rfl).run.trans (writes_ret _ _)
  cases i with
  | frClear | frLoad _ _ | frLoadRaw _ _ | frEncode _ =>
    cases h
    exact hframe _
  | frSetBit _ _ =>
    obtain ⟨_, -, ht⟩ := exists_ok_of_finish_bind h
    cases ht
    exact hframe _
  | frIsError | frDecode | frTx | fxFlashPhase _ _ | agPulseQ _ | agMode =>
    cases h
    exact writes_of_frame rfl
  | frGetBit _ | fxHue _ _ _ =>
    obtain ⟨_, -, ht⟩ := exists_ok_of_finish_bind h
    cases ht
    exact writes_of_frame rfl
  | frame _ _ =>
    cases h
    exact writes_rxArrive s _
  | frRx =>
    cases h
    exact (writes_receive s).trans (writes_ret _ _)
  | dbInit d window =>
    obtain ⟨x, hx, h⟩ := exists_ok_of_finish_bind h
    split at h
    · cases h
    · next hnew =>
      cases h
      exact (Write.debouncer (debouncer_eq_ok.1 hx) fun hu => absurd hu hnew).run.trans (writes_ret _ _)
  | dbProcess _ _ _ =>
    obtain ⟨⟨_, _⟩, hp, ht⟩ := exists_ok_of_finish_bind h
    cases ht
    exact (writes_dbProcess hp).trans (writes_ret _ _)
  | dbForce d value =>
    obtain ⟨x, hx, ht⟩ := exists_ok_of_finish_bind h
    cases ht
    have hforce : Writes false s (s.setDb d { x with stable := value }) :=
      (Write.debouncer (y := { x with stable := value }) (debouncer_eq_ok.1 hx) fun _ => rfl).run
    exact (hforce.tail (.useDb d)).trans (writes_ret _ _)
  | dbStable d =>
    obtain ⟨x, -, ht⟩ := exists_ok_of_finish_bind h
    cases ht
    exact (Write.useDb d).run.trans (writes_ret _ _)
  | fxConfig e config =>
    obtain ⟨c, hc, h⟩ := exists_ok_of_finish_bind h
    split at h
    · cases h
    · next hnew =>
      split at h <;> cases h
      next hok =>
      refine (Write.context (context_eq_ok.1 hc) (fun hu => absurd hu hnew) fun _ => ?_).run.trans (writes_ret _ _)
      exact contextOk_iff.2 ⟨fun k hk => Option.some.inj hk ▸ hok, nofun, rfl⟩
  | fxActivate _ _ =>
    obtain ⟨_, ha, ht⟩ := exists_ok_of_finish_bind h
    cases ht
    exact (writes_fxActivate ha).trans (writes_ret _ _)
  | fxTick _ _ _ =>
    obtain ⟨_, hk, ht⟩ := exists_ok_of_finish_bind h
    cases ht
    exact (writes_fxTick hk).trans (writes_ret _ _)
  | fxExpired e _ =>
    obtain ⟨_, -, ht⟩ := exists_ok_of_finish_bind h
    cases ht
    exact (Write.useFx e).run.trans (writes_ret _ _)
  | fxSeed _ _ =>
    obtain ⟨_, hs, ht⟩ := exists_ok_of_finish_bind h
    cases ht
    exact (writes_fxSeed hs).trans (writes_ret _ _)
  | fxShimmerLevel e _ =>
    obtain ⟨_, -, h⟩ := exists_ok_of_finish_bind h
    obtain ⟨_, -, ht⟩ := bind_eq_ok.1 h
    cases ht
    exact (Write.useFx e).run.trans (writes_ret _ _)
  | agUpdate _ _ _ _ _ _ _ _ => exact writes_agUpdate h
  | sqTick _ _ => exact writes_sqTick (finish_eq_next.1 h)

/-- A step that answers is a run of writes, or a power-on reset. -/
theorem step_writes {s t : State} (h : step s = .next t) :
    (∃ frame, Writes frame s t) ∨ ∃ rest, t = (s.setQueue rest).powerOn := by
  have htake : ∀ {frame : Bool} (rest : List Input), Writes frame s (s.setQueue rest) := fun rest =>
    writes_of_frame rfl
  obtain ⟨i, s', hf, he⟩ | hf := step_cases h
  · obtain ⟨-, _, rest, -, -, rfl⟩ := fetch_run hf
    exact .inl ⟨_, (htake rest).trans (exec_writes he)⟩
  · obtain ⟨-, rfl⟩ | ⟨rest, -, rfl⟩ | ⟨bytes, rest, -, rfl⟩ | ⟨n, rest, -, rfl⟩ := fetch_quiet hf
    · exact .inl ⟨false, .refl⟩
    · exact .inr ⟨rest, rfl⟩
    · exact .inl ⟨false, (htake rest).trans (writes_rxArrive _ bytes)⟩
    · exact .inl ⟨false, (htake rest).trans (writes_of_frame rfl)⟩

/-! ### The invariant -/

/-- Replacing SQ[l] by one with the same slot moves no sequencer to another slot. -/
theorem map_slot_set {xs : List Sequencer} {l : Nat} {q q' : Sequencer} (hq : xs[l]? = some q)
    (hslot : q'.slot = q.slot) : (xs.set l q').map Sequencer.slot = xs.map Sequencer.slot := by
  obtain ⟨hlt, rfl⟩ := List.getElem?_eq_some_iff.1 hq
  rw [List.map_set, hslot]
  conv_lhs => rw [← List.getElem_map Sequencer.slot (h := by simpa using hlt)]
  exact List.set_getElem_self _

/-- What `currentOk` reads of a state: a context's usage mark, configuration and activation. -/
theorem currentOk_mono {s t : State} {q : Sequencer} (h : s.currentOk q = true)
    (huse : ∀ e, s.fxInUse e = true → t.fxInUse e = true)
    (hfx : ∀ e c, s.fx[e]? = some c → s.fxInUse e = true → c.config.isSome = true ∧ c.tact.isSome = true →
      ∃ c', t.fx[e]? = some c' ∧ c'.config.isSome = true ∧ c'.tact.isSome = true) :
    t.currentOk q = true := by
  refine currentOk_iff.2 fun e he => ?_
  obtain ⟨hset, hused, c, hc, hready⟩ := currentOk_iff.1 h e he
  exact ⟨hset, huse e hused, hfx e c hc hused hready⟩

/-- Every write keeps the invariant. -/
theorem Write.inv {frame : Bool} {s t : State} (h : Write frame s t) (hs : s.Inv) : t.Inv := by
  cases h with
  | ports | fb => exact { hs with }
  | rx hfits => exact { hs with rxFits := hfits hs }
  | inputs hlevels => exact { hs with levels := hlevels }
  | snapFrame hgood => exact { hs with snapFrame := hgood }
  | paint color hslot =>
    refine { hs with cbCanonical := Memory.write_wf _ _ hs.cbCanonical, cbSlots := fun p hp => ?_ }
    obtain rfl | hp := Memory.mem_write hp
    · exact hslot
    · exact hs.cbSlots p hp
  | debouncer hx hwindow => exact { hs with banks := by simpa using hs.banks }
  | useDb d => exact { hs with banks := by simpa using hs.banks }
  | @context e c c' hc hkeep hok =>
    refine { hs with banks := by simpa using hs.banks, contexts := fun x hx => ?_, currents := fun q hq => ?_ }
    · obtain hx | rfl := List.mem_or_eq_of_mem_set hx
      · exact hs.contexts x hx
      · exact hok hs
    · refine currentOk_mono (hs.currents q hq) (fun _ hu => hu) fun e' x hx hu hready => ?_
      refine exists_getElem?_set hx (fun _ => hready) fun he => ?_
      subst he
      obtain rfl : c = x := Option.some.inj (hc.symm.trans hx)
      obtain ⟨hconfig, htact⟩ := hkeep hu
      exact ⟨hconfig ▸ hready.1, htact hready.2⟩
  | useFx e =>
    refine { hs with banks := by simpa using hs.banks, currents := fun q hq => ?_ }
    exact currentOk_mono (hs.currents q hq) (fun _ => fxInUse_useFx e) fun _ c hc _ hready => ⟨c, hc, hready⟩
  | @sequencer l q cur seed hq hcur =>
    have hlen : (s.sq.set l { q with cur := cur, seed := seed }).length = s.sq.length := List.length_set
    have hcontextOk : ∀ c, (s.setSq l { q with cur := cur, seed := seed }).contextOk c = s.contextOk c := fun c =>
      contextOk_congr c rfl hlen
    refine { hs with
      ledCount := hs.ledCount.trans_eq hlen.symm
      cbSlots := fun p hp => (hs.cbSlots p hp).trans_eq hlen.symm
      contexts := fun c hc => (hcontextOk c).trans (hs.contexts c hc)
      slots := ⟨fun x hx => ?_, ?_⟩
      currents := fun x hx => ?_ }
    · refine Nat.lt_of_lt_of_eq ?_ hlen.symm
      obtain hx | rfl := List.mem_or_eq_of_mem_set hx
      · exact hs.slots.1 x hx
      · exact hs.slots.1 q (List.mem_of_getElem? hq)
    · exact (map_slot_set (q' := { q with cur := cur, seed := seed }) hq rfl).symm ▸ hs.slots.2
    · obtain hx | rfl := List.mem_or_eq_of_mem_set hx
      · exact hs.currents x hx
      · exact hcur hs

theorem Writes.inv {frame : Bool} {s t : State} (h : Writes frame s t) (hs : s.Inv) : t.Inv := by
  induction h with
  | refl => exact hs
  | tail _ hw ih => exact hw.inv ih

/-- A power-on reset keeps the invariant: it clears what the invariant constrains, or does not touch it. -/
theorem powerOn_inv {s : State} (hs : s.Inv) : s.powerOn.Inv := by
  have hlen : s.powerOn.ledCount = s.ledCount := List.length_map _
  have hslots : s.powerOn.sq.map Sequencer.slot = s.sq.map Sequencer.slot := by
    simp [State.powerOn, Function.comp_def, Sequencer.atReset]
  refine { hs with
    ledCount := hs.ledCount.trans_eq hlen.symm
    cbSlots := fun p hp => (hs.cbSlots p hp).trans_eq hlen.symm
    banks := by simpa [State.powerOn] using hs.banks
    contexts := fun c' hc' => ?_
    levels := rfl
    snapFrame := Frame.default_isError
    slots := ⟨fun q' hq' => ?_, hslots.symm ▸ hs.slots.2⟩
    currents := fun q' hq' => ?_ }
  · obtain ⟨c, hc, rfl⟩ := List.mem_map.1 hc'
    obtain ⟨hconfig, -, -⟩ := contextOk_iff.1 (hs.contexts c hc)
    exact (contextOk_congr (s := s) (t := s.powerOn) c.atReset rfl hlen).trans (contextOk_iff.2 ⟨hconfig, nofun, rfl⟩)
  · obtain ⟨q, hq, rfl⟩ := List.mem_map.1 hq'
    exact (hs.slots.1 q hq).trans_eq hlen.symm
  · obtain ⟨q, -, rfl⟩ := List.mem_map.1 hq'
    rfl

/-- Settles O11: a step is a run of writes, each of which keeps the invariant, or a power-on reset, which keeps it too. -/
theorem stepKeepsInvariant : Obligations.StepKeepsInvariant := by
  unfold Obligations.StepKeepsInvariant
  intro s t hs h
  obtain ⟨_, hw⟩ | ⟨rest, rfl⟩ := step_writes h
  · exact hw.inv hs
  · exact powerOn_inv (Writes.inv (frame := false) (writes_of_frame rfl) hs)

/-! ### The configuration -/

/-- What R208 calls constant: the parameters, the banks' sizes, the constructors' arguments of sequencers, and those of
contexts and debouncers in use. -/
structure ConfigKept (s t : State) : Prop where
  params : t.params = s.params
  dbLength : t.db.length = s.db.length
  fxLength : t.fx.length = s.fx.length
  sqLength : t.sq.length = s.sq.length
  sequencers : ∀ (l : Nat) (q : Sequencer), s.sq[l]? = some q → ∃ q', t.sq[l]? = some q'
    ∧ q'.slot = q.slot ∧ q'.set = q.set ∧ q'.indicator = q.indicator
  contexts : ∀ (e : Nat) (c : Context), s.fx[e]? = some c → s.fxInUse e = true →
    ∃ c', t.fx[e]? = some c' ∧ c'.config = c.config
  debouncers : ∀ (d : Nat) (x : Debouncer), s.db[d]? = some x → s.dbInUse d = true →
    ∃ x', t.db[d]? = some x' ∧ x'.tstable = x.tstable

/-- No context and no debouncer goes out of use. -/
structure UsageKept (s t : State) : Prop where
  contexts : ∀ e, s.fxInUse e = true → t.fxInUse e = true
  debouncers : ∀ d, s.dbInUse d = true → t.dbInUse d = true

theorem ConfigKept.refl (s : State) : ConfigKept s s :=
  ⟨rfl, rfl, rfl, rfl, fun _ q hq => ⟨q, hq, rfl, rfl, rfl⟩, fun _ c hc _ => ⟨c, hc, rfl⟩,
    fun _ x hx _ => ⟨x, hx, rfl⟩⟩

/-- Constancy composes where the first half takes nothing out of use. -/
theorem ConfigKept.trans {s t u : State} (hst : ConfigKept s t) (huse : UsageKept s t) (htu : ConfigKept t u) :
    ConfigKept s u where
  params := htu.params.trans hst.params
  dbLength := htu.dbLength.trans hst.dbLength
  fxLength := htu.fxLength.trans hst.fxLength
  sqLength := htu.sqLength.trans hst.sqLength
  sequencers l q hq := by
    obtain ⟨q', hq', hslot, hset, hindicator⟩ := hst.sequencers l q hq
    obtain ⟨q'', hq'', hslot', hset', hindicator'⟩ := htu.sequencers l q' hq'
    exact ⟨q'', hq'', hslot'.trans hslot, hset'.trans hset, hindicator'.trans hindicator⟩
  contexts e c hc hu := by
    obtain ⟨c', hc', hconfig⟩ := hst.contexts e c hc hu
    obtain ⟨c'', hc'', hconfig'⟩ := htu.contexts e c' hc' (huse.contexts e hu)
    exact ⟨c'', hc'', hconfig'.trans hconfig⟩
  debouncers d x hx hu := by
    obtain ⟨x', hx', hwindow⟩ := hst.debouncers d x hx hu
    obtain ⟨x'', hx'', hwindow'⟩ := htu.debouncers d x' hx' (huse.debouncers d hu)
    exact ⟨x'', hx'', hwindow'.trans hwindow⟩

theorem Write.usageKept {frame : Bool} {s t : State} (h : Write frame s t) : UsageKept s t := by
  cases h with
  | useDb d => exact ⟨fun _ hu => hu, fun _ => dbInUse_useDb d⟩
  | useFx e => exact ⟨fun _ => fxInUse_useFx e, fun _ hu => hu⟩
  | ports | fb | rx | inputs | snapFrame | paint | debouncer | context | sequencer =>
    exact ⟨fun _ hu => hu, fun _ hu => hu⟩

theorem Write.configKept {frame : Bool} {s t : State} (h : Write frame s t) : ConfigKept s t := by
  cases h with
  | ports | fb | rx | inputs | snapFrame | paint | useDb | useFx => exact { ConfigKept.refl s with }
  | @debouncer d x y hx hwindow =>
    refine { ConfigKept.refl s with dbLength := List.length_set, debouncers := fun d' x' hx' hu => ?_ }
    refine exists_getElem?_set hx' (fun _ => rfl) fun hd => ?_
    subst hd
    obtain rfl : x = x' := Option.some.inj (hx.symm.trans hx')
    exact hwindow hu
  | @context e c c' hc hkeep hok =>
    refine { ConfigKept.refl s with fxLength := List.length_set, contexts := fun e' x hx hu => ?_ }
    refine exists_getElem?_set hx (fun _ => rfl) fun he => ?_
    subst he
    obtain rfl : c = x := Option.some.inj (hc.symm.trans hx)
    exact (hkeep hu).1
  | @sequencer l q cur seed hq hcur =>
    refine { ConfigKept.refl s with sqLength := List.length_set, sequencers := fun l' x hx => ?_ }
    refine exists_getElem?_set hx (fun _ => ⟨rfl, rfl, rfl⟩) fun hl => ?_
    subst hl
    obtain rfl : q = x := Option.some.inj (hq.symm.trans hx)
    exact ⟨rfl, rfl, rfl⟩

theorem Writes.configKept {frame : Bool} {s t : State} (h : Writes frame s t) : ConfigKept s t := by
  induction h using Relation.ReflTransGen.head_induction_on with
  | refl => exact .refl t
  | head hw _ ih => exact hw.configKept.trans hw.usageKept ih

/-- A power-on reset keeps every constructor argument (70_reset_and_hazards.md R200). -/
theorem powerOn_configKept (s : State) (rest : List Input) : ConfigKept s (s.setQueue rest).powerOn where
  params := rfl
  dbLength := List.length_map _
  fxLength := List.length_map _
  sqLength := List.length_map _
  sequencers l q hq := ⟨q.atReset, by simp [State.powerOn, hq], rfl, rfl, rfl⟩
  contexts e c hc _ := ⟨c.atReset, by simp [State.powerOn, hc], rfl⟩
  debouncers d x hx _ := ⟨x.atReset, by simp [State.powerOn, hx], rfl⟩

/-- Settles O12: a step is a run of writes, none of which takes anything out of use or changes a configuration in use, or
a power-on reset, which keeps the constructors' arguments. -/
theorem configurationIsConstant : Obligations.ConfigurationIsConstant := by
  unfold Obligations.ConfigurationIsConstant
  intro s t h
  have hkept : ConfigKept s t := by
    obtain ⟨_, hw⟩ | ⟨rest, rfl⟩ := step_writes h
    · exact hw.configKept
    · exact powerOn_configKept s rest
  exact ⟨hkept.params, hkept.dbLength, hkept.fxLength, hkept.sqLength, hkept.sequencers, hkept.contexts,
    hkept.debouncers⟩

end Sys2Proof.Machine

/-! SUPPORT. The step: what the next input makes of it, the environment's actions, FATAL and reset. -/

namespace Sys2Proof.Machine

/-! ### What a step takes -/

/-- An input that decodes is taken and runs (00_scope.md R4). -/
theorem fetch_of_decode {s : State} {x : Input} {rest : List Input} {i : Instr} (hf : s.fatal = false)
    (hq : s.queue = x :: rest) (hd : decode x = .ok i) : fetch s = .run i (s.setQueue rest) := by
  cases x with
  | command op p =>
    cases hc : decodeCommand op p with
    | ok j =>
      simp only [decode, hc, Except.ok.injEq] at hd
      simp [fetch, hq, hf, hc, hd]
    | error r => simp [decode, hc] at hd
  | wire bytes =>
    have hw : decodeWire bytes = .ok i := hd
    simp [fetch, hq, hf, hw]
  | takeTx n => cases hd
  | powerOn => cases hd

theorem step_of_run {s s' : State} {i : Instr} (h : fetch s = .run i s') : step s = exec i s' := by
  rw [step, h]

theorem step_of_quiet {s t : State} (h : fetch s = .quiet t) : step s = .next t := by
  rw [step, h]

theorem step_of_stopped {s : State} {f : Fault} (h : fetch s = .stopped f) : step s = .fault f := by
  rw [step, h]

theorem decode_tableInput {nbits w : Nat} {i : Instr} (h : decodeTableWord nbits w = some i) :
    decode (tableInput nbits w) = .ok i := by
  unfold decodeTableWord at h
  split at h <;> cases h
  assumption

/-- Settles O6: an input that decodes runs, and a table word presented is such an input at the head of the queue. -/
theorem stepRunsTheDecodedInstruction : Obligations.StepRunsTheDecodedInstruction := by
  unfold Obligations.StepRunsTheDecodedInstruction
  refine ⟨fun s x rest i hf hq hd => step_of_run (fetch_of_decode hf hq hd), fun s nbits w i hf hd => ?word⟩
  case word =>
    exact step_of_run (fetch_of_decode (s := s.withFetchWord nbits w) hf rfl (decode_tableInput hd))

/-! ### The environment (20_memory.md R52) -/

/-- FRAME is the arrival of its two bytes, so wire bytes arrive whether or not they are a frame (logs 3 and 4). -/
theorem step_wire {s : State} {bytes : List Byte} {rest : List Input} (hf : s.fatal = false)
    (hq : s.queue = .wire bytes :: rest) : step s = .next ((s.setQueue rest).rxArrive bytes) := by
  cases hd : decodeWire bytes with
  | error e => exact step_of_quiet (by simp [fetch, hq, hf, hd])
  | ok i =>
    obtain ⟨signals, spare, rfl, rfl⟩ := decodeWire_eq_ok hd
    exact step_of_run (fetch_of_decode hf hq hd)

theorem step_idle {s : State} (hf : s.fatal = false) (hq : s.queue = []) : step s = .next s :=
  step_of_quiet (by simp [fetch, hq, hf])

theorem step_takeTx {s : State} {n : Nat} {rest : List Input} (hf : s.fatal = false)
    (hq : s.queue = .takeTx n :: rest) : step s = .next ((s.setQueue rest).setTx (s.tx.drop n)) :=
  step_of_quiet (by simp [fetch, hq, hf])

/-- Settles O7: an idle step waits, wire bytes arrive in RX, and `takeTx` drops from TX. -/
theorem environmentTouchesOnlyTheStreams : Obligations.EnvironmentTouchesOnlyTheStreams := by
  unfold Obligations.EnvironmentTouchesOnlyTheStreams
  refine ⟨fun s => step_idle, fun s bytes rest hf hq hfits => ?fits, fun s bytes rest hf hq => ?arrives,
    fun s n rest => step_takeTx⟩
  case fits =>
    rw [step_wire hf hq, rxArrive_of_fits (s := s.setQueue rest) hfits]
    rfl
  case arrives =>
    exact ⟨_, step_wire hf hq, rxArrive_length_le (s.setQueue rest) bytes, rxArrive_frame (s.setQueue rest) bytes⟩

/-! ### FATAL and reset -/

theorem step_of_fatal {s : State} (hf : s.fatal = true) (hr : ∀ rest, s.queue ≠ .powerOn :: rest) :
    step s = .fault .fatal := by
  refine step_of_stopped ?_
  cases hq : s.queue with
  | nil => simp [fetch, hq, hf]
  | cons x rest =>
    cases x with
    | powerOn => exact absurd hq (hr rest)
    | command _ _ | wire _ | takeTx _ => simp [fetch, hq, hf]

theorem step_powerOn {s : State} {rest : List Input} (hq : s.queue = .powerOn :: rest) :
    step s = .next (s.setQueue rest).powerOn :=
  step_of_quiet (by simp [fetch, hq])

/-- Settles O8: with FATAL set every input but a reset is stopped, and a reset clears FATAL. -/
theorem fatalStopsUntilReset : Obligations.FatalStopsUntilReset := by
  unfold Obligations.FatalStopsUntilReset
  exact ⟨fun s => step_of_fatal, fun s rest hq => ⟨_, step_powerOn hq, rfl⟩⟩

/-- Settles O9: the reset state is a literal, and `powerOn` writes each register the spec names and keeps the rest. -/
theorem resetLeavesTheSpecValues : Obligations.ResetLeavesTheSpecValues := by
  unfold Obligations.ResetLeavesTheSpecValues
  refine ⟨⟨rfl, rfl, rfl, rfl, rfl, rfl, ?debouncers, ?contexts, ?sequencers, rfl⟩, fun s rest hq =>
    ⟨_, step_powerOn hq, rfl, rfl, rfl, rfl, rfl, rfl, rfl, fun d x hx => ?db, fun e c hc => ?fx, fun l q hl => ?sq,
      rfl, rfl, rfl, rfl, rfl⟩⟩
  case debouncers => decide
  case contexts =>
    intro c hc
    obtain ⟨k, -, rfl⟩ := List.mem_map.1 hc
    exact ⟨rfl, rfl, rfl⟩
  case sequencers => decide
  case db => simp [State.powerOn, hx, Debouncer.atReset, Debouncer.constructed]
  case fx => simp [State.powerOn, hc, Context.atReset]
  case sq => simp [State.powerOn, hl, Sequencer.atReset]

/-- Settles O10: the reset state is a literal on which every clause of the invariant computes. -/
theorem resetMeetsInvariant : Obligations.ResetMeetsInvariant := by
  unfold Obligations.ResetMeetsInvariant
  exact {
    params := by decide
    ledCount := by decide
    rxFits := by decide
    cbCanonical := reset_cb_wf
    cbSlots := nofun
    banks := by decide
    contexts := by decide
    levels := rfl
    snapFrame := Frame.default_isError
    slots := by decide
    currents := by decide }

/-! ### Queries -/

/-- Settles O13: each query answers what it reads and writes the result port; those that name a context or a
debouncer also mark it in use. -/
theorem queriesWriteNoState : Obligations.QueriesWriteNoState := by
  unfold Obligations.QueriesWriteNoState
  intro s t i h hi
  cases i with
  | frIsError | frDecode | fxFlashPhase _ _ | agPulseQ _ | agMode =>
    cases h
    rfl
  | frGetBit _ | dbStable _ | fxExpired _ _ | fxHue _ _ _ =>
    obtain ⟨_, -, ht⟩ := exists_ok_of_finish_bind h
    cases ht
    rfl
  | fxShimmerLevel _ _ =>
    obtain ⟨_, -, h⟩ := exists_ok_of_finish_bind h
    obtain ⟨_, -, ht⟩ := bind_eq_ok.1 h
    cases ht
    rfl
  | frame _ _ | frClear | frLoad _ _ | frLoadRaw _ _ | frSetBit _ _ | frEncode _ | frRx | frTx | dbInit _ _
  | dbProcess _ _ _ | dbForce _ _ | fxConfig _ _ | fxActivate _ _ | fxTick _ _ _ | fxSeed _ _
  | agUpdate _ _ _ _ _ _ _ _ | sqTick _ _ =>
    simp at hi

end Sys2Proof.Machine

/-! SUPPORT. The framer: the bits that each operation leaves in FB, the round trips, and the receiver's alignment. -/

namespace Sys2Proof.Machine

/-! ### Bits of a frame -/

theorem getLsbD_one_shiftLeft {i j : Nat} (hi : i < 8) : (1#8 <<< i).getLsbD j = decide (j = i) := by
  change (BitVec.twoPow 8 i).getLsbD j = _
  simp [BitVec.getLsbD_twoPow, hi, eq_comm]

theorem getLsbD_setBit (b : Byte) {i j : Nat} (v : Bool) (hi : i < 8) (hj : j < 8) :
    (setBit b i v).getLsbD j = if j = i then v else b.getLsbD j := by
  unfold setBit
  cases v with
  | true =>
    rw [if_pos rfl, BitVec.getLsbD_or, getLsbD_one_shiftLeft hi]
    by_cases h : j = i <;> simp [h]
  | false =>
    rw [if_neg Bool.false_ne_true, BitVec.getLsbD_and, BitVec.getLsbD_not, getLsbD_one_shiftLeft hi]
    by_cases h : j = i <;> simp [h, hj]

/-- Frames are equal when their sixteen bits are. -/
theorem Frame.eq_of_bits {f g : Frame} (h : ∀ j < 2, ∀ i < 8, (f.byte j).getLsbD i = (g.byte j).getLsbD i) : f = g := by
  have hb0 : f.b0 = g.b0 := BitVec.eq_of_getLsbD_eq (h 0 (by decide))
  have hb1 : f.b1 = g.b1 := BitVec.eq_of_getLsbD_eq (h 1 (by decide))
  cases f
  cases g
  cases hb0
  cases hb1
  rfl

/-- Writing a signal writes one bit of the frame (40_framer.md R83). -/
theorem Frame.byte_setSignal (f : Frame) {k j i : Nat} (v : Bool) (hk : k < 10) (hj : j < 2) (hi : i < 8) :
    ((f.setSignal k v).byte j).getLsbD i = if j = k / 7 ∧ i = k % 7 then v else (f.byte j).getLsbD i := by
  have hbit : k % 7 < 8 := by omega
  have hset := fun b : Byte => getLsbD_setBit b v hbit hi
  obtain h0 | h1 : k / 7 = 0 ∨ k / 7 = 1 := by omega
  · obtain rfl | rfl : j = 0 ∨ j = 1 := by omega
    · simpa [setSignal, signalByte, signalBit, Config.payloadBits, h0, byte] using hset f.b0
    · simp [setSignal, signalByte, Config.payloadBits, h0, byte]
  · obtain rfl | rfl : j = 0 ∨ j = 1 := by omega
    · simp [setSignal, signalByte, Config.payloadBits, h1, byte]
    · simpa [setSignal, signalByte, signalBit, Config.payloadBits, h1, byte] using hset f.b1

theorem getLsbD_frameByte0 (signals : BitVec 10) {k : Nat} (hk : k < 7) :
    (frameByte0 signals).getLsbD k = signals.getLsbD k := by
  rw [← getLsbD_signalsOf_byte0 _ (frameByte1 signals 0) hk, signalsOf_frameBytes]

theorem getLsbD_frameByte1 (signals : BitVec 10) (spare : BitVec 4) {k : Nat} (hk : k < 3) :
    (frameByte1 signals spare).getLsbD k = signals.getLsbD (7 + k) := by
  rw [← getLsbD_signalsOf_byte1 (frameByte0 signals) _ hk, signalsOf_frameBytes]

theorem getLsbD_frameByte1_spare (signals : BitVec 10) (spare : BitVec 4) {k : Nat} (hk : k < 4) :
    (frameByte1 signals spare).getLsbD (3 + k) = spare.getLsbD k := by
  rw [← getLsbD_spareOf _ hk, spareOf_frameByte1]

/-- The frame of a signal vector differs from the default frame in its signal bits alone (40_framer.md R86). -/
theorem Frame.byte_ofSignals (vec : BitVec 10) {j i : Nat} (hj : j < 2) (hi : i < 8) :
    ((Frame.ofSignals vec).byte j).getLsbD i =
      if i < 7 ∧ 7 * j + i < 10 then vec.getLsbD (7 * j + i) else (Frame.default.byte j).getLsbD i := by
  obtain ⟨hstart, hcont⟩ := marker_frameBytes vec 0
  obtain rfl | rfl : j = 0 ∨ j = 1 := by omega
  · change (frameByte0 vec).getLsbD i = _
    obtain hlt | rfl : i < 7 ∨ i = 7 := by omega
    · rw [if_pos ⟨hlt, by omega⟩, getLsbD_frameByte0 vec hlt, Nat.mul_zero, Nat.zero_add]
    · exact hstart
  · change (frameByte1 vec 0).getLsbD i = _
    obtain hlt | ⟨hge, hlt⟩ | rfl : i < 3 ∨ (3 ≤ i ∧ i < 7) ∨ i = 7 := by omega
    · rw [if_pos ⟨by omega, by omega⟩, getLsbD_frameByte1 vec 0 hlt]
    · obtain ⟨m, rfl⟩ := Nat.exists_eq_add_of_le hge
      rw [if_neg (by omega), getLsbD_frameByte1_spare vec 0 (by omega)]
      exact BitVec.getLsbD_zero.trans BitVec.getLsbD_zero.symm
    · exact hcont

/-- Signal `k` of the frame of a vector is bit `k` of it (30_encoding.md R61). -/
theorem Frame.bit_ofSignals (vec : BitVec 10) {k : Nat} (hk : k < 10) :
    ((Frame.ofSignals vec).byte (k / 7)).getLsbD (k % 7) = vec.getLsbD k := by
  rw [byte_ofSignals vec (by omega) (by omega), if_pos ⟨by omega, by omega⟩, Nat.div_add_mod]

theorem Frame.signals_ofSignals (vec : BitVec 10) : (Frame.ofSignals vec).signals = vec :=
  signalsOf_frameBytes vec 0

/-! ### Well-formed frames (10_state.md R11) -/

theorem Frame.wellFormed_iff {f : Frame} :
    f.wellFormed = true ↔ f.b0.getLsbD 7 = true ∧ f.b1.getLsbD 7 = false := by
  simp [wellFormed, marker]

theorem Frame.default_wellFormed : Frame.default.wellFormed = true := by decide

theorem Frame.ofSignals_wellFormed (vec : BitVec 10) : (Frame.ofSignals vec).wellFormed = true :=
  wellFormed_iff.2 (marker_frameBytes vec 0)

theorem Frame.ofSignals_isError (vec : BitVec 10) : (Frame.ofSignals vec).isError = false := by
  simp [isError, ofSignals, (marker_frameBytes vec 0).1]

/-- FR_LOAD's frame: the markers forced, the fourteen other bits as given (40_framer.md R81). -/
theorem Frame.sanitized_bits (in0 in1 : Byte) {i : Nat} (hi : i < 7) :
    (sanitized in0 in1).b0.getLsbD i = in0.getLsbD i ∧ (sanitized in0 in1).b1.getLsbD i = in1.getLsbD i := by
  have hmask : (0x80#8).getLsbD i = false ∧ (0x7F#8).getLsbD i = true := by
    revert i
    decide
  simp [sanitized, hmask]

theorem Frame.sanitized_markers (in0 in1 : Byte) :
    (sanitized in0 in1).b0.getLsbD 7 = true ∧ (sanitized in0 in1).b1.getLsbD 7 = false := by
  simp [sanitized]

/-! ### The operations on FB -/

theorem signalOperand_of_lt {k : BitVec 4} (h : k.toNat < 10) : signalOperand k = .ok k.toNat := if_pos h

theorem signalOperand_of_ge {k : BitVec 4} (h : 10 ≤ k.toNat) : signalOperand k = opFault .signalIndex :=
  if_neg (Nat.not_lt.2 h)

theorem exec_frSetBit (s : State) {k : BitVec 4} (v : Bool) (h : k.toNat < 10) :
    exec (.frSetBit k v) s = .next ((s.setFb (s.fb.setSignal k.toNat v)).ret .nothing) := by
  simp [exec, execFrSetBit, signalOperand_of_lt h]

theorem exec_frGetBit (s : State) {k : BitVec 4} (h : k.toNat < 10) :
    exec (.frGetBit k) s = .next (s.ret (.bit (s.fb.signal k.toNat))) := by
  simp [exec, execFrGetBit, signalOperand_of_lt h]

theorem exec_frEncode (vec : BitVec 10) (s : State) :
    exec (.frEncode vec) s = .next ((s.setFb (Frame.ofSignals vec)).ret .nothing) := rfl

theorem exec_frDecode (s : State) : exec .frDecode s = .next (s.ret (.decoded s.fb.signals s.fb.isError)) := rfl

theorem exec_frRx (s : State) : exec .frRx s = .next ((receive s).1.ret (.rxStatus (receive s).2)) := rfl

/-- Settles O15: FR_LOAD stores the sanitized bytes, FR_LOAD_RAW the bytes. -/
theorem loadForcesMarkersAndRawDoesNot : Obligations.LoadForcesMarkersAndRawDoesNot := by
  unfold Obligations.LoadForcesMarkersAndRawDoesNot
  intro s in0 in1
  obtain ⟨hstart, hcont⟩ := Frame.sanitized_markers in0 in1
  exact ⟨⟨Frame.sanitized in0 in1, rfl, hstart, hcont, fun i hi => Frame.sanitized_bits in0 in1 hi⟩, rfl⟩

/-- Settles O16: below 10 the bit of the index is the one written; from 10 on the operand is refused. -/
theorem setBitWritesOneBit : Obligations.SetBitWritesOneBit := by
  unfold Obligations.SetBitWritesOneBit
  refine fun s k v => ⟨fun hk => ?written, fun hk => ?refused⟩
  case written =>
    exact ⟨s.fb.setSignal k.toNat v, exec_frSetBit s v hk, fun j hj i hi => s.fb.byte_setSignal v hk hj hi⟩
  case refused => simp [exec, execFrSetBit, signalOperand_of_ge hk]

/-- Settles O17: below 10 the signal is read from FB as it stands; from 10 on the operand is refused. -/
theorem getBitReturnsTheStoredBit : Obligations.GetBitReturnsTheStoredBit := by
  unfold Obligations.GetBitReturnsTheStoredBit
  refine fun s k => ⟨fun hk => exec_frGetBit s hk, fun hk => ?refused⟩
  case refused => simp [exec, execFrGetBit, signalOperand_of_ge hk]

/-- Settles O19: the vector is that of `signalsOf`, whose bits are those of the two bytes. -/
theorem decodeReturnsSignalsAndError : Obligations.DecodeReturnsSignalsAndError := by
  unfold Obligations.DecodeReturnsSignalsAndError
  exact fun s => ⟨s.fb.signals, exec_frDecode s, fun k hk => getLsbD_signalsOf_byte0 _ _ hk,
    fun k hk => getLsbD_signalsOf_byte1 _ _ hk⟩

/-- Settles O20: the bits of the frame of a vector. -/
theorem encodePlacesEverySignal : Obligations.EncodePlacesEverySignal := by
  unfold Obligations.EncodePlacesEverySignal
  intro s vec
  obtain ⟨hstart, hcont⟩ := marker_frameBytes vec 0
  refine ⟨Frame.ofSignals vec, exec_frEncode vec s, fun k hk => Frame.bit_ofSignals vec hk, hstart, hcont,
    fun i hi => ?_⟩
  exact (getLsbD_frameByte1_spare vec 0 hi).trans BitVec.getLsbD_zero

/-- Settles O22: FR_DECODE reads back the signals that FR_ENCODE placed, and their frame is not errored. -/
theorem encodeThenDecodeRoundTrip : Obligations.EncodeThenDecodeRoundTrip := by
  unfold Obligations.EncodeThenDecodeRoundTrip
  refine fun s vec => ⟨_, exec_frEncode vec s, ?_⟩
  rw [exec_frDecode, State.ret_fb, State.setFb_fb, Frame.signals_ofSignals, Frame.ofSignals_isError]
  rfl

/-- Settles O23: the transaction is begun, two bytes are written to it, and it is closed. -/
theorem transmitAppendsTheRawFrame : Obligations.TransmitAppendsTheRawFrame := by
  unfold Obligations.TransmitAppendsTheRawFrame
  exact fun s => rfl

/-! ### Encoding bit by bit (30_encoding.md R74) -/

/-- The frame after writing the signals of a list of indexes from a vector, in the order of the list. -/
def setSignals (vec : BitVec 10) (ks : List Nat) (f : Frame) : Frame :=
  ks.foldl (fun f k => f.setSignal k (vec.getLsbD k)) f

/-- Whatever their order, the indexes listed decide which bits come from the vector. -/
theorem byte_setSignals (vec : BitVec 10) {ks : List Nat} (f : Frame) {j i : Nat} (hks : ∀ k ∈ ks, k < 10) (hj : j < 2)
    (hi : i < 8) :
    ((setSignals vec ks f).byte j).getLsbD i =
      if i < 7 ∧ 7 * j + i ∈ ks then vec.getLsbD (7 * j + i) else (f.byte j).getLsbD i := by
  induction ks generalizing f with
  | nil => simp [setSignals]
  | cons k ks ih =>
    have hk := hks k List.mem_cons_self
    refine (ih (f.setSignal k (vec.getLsbD k)) fun k' hk' => hks k' (List.mem_cons_of_mem k hk')).trans ?_
    rw [f.byte_setSignal _ hk hj hi]
    have hplace : j = k / 7 ∧ i = k % 7 ↔ i < 7 ∧ 7 * j + i = k := by omega
    by_cases hmem : i < 7 ∧ 7 * j + i ∈ ks
    · rw [if_pos hmem, if_pos ⟨hmem.1, List.mem_cons_of_mem k hmem.2⟩]
    · rw [if_neg hmem]
      by_cases hat : i < 7 ∧ 7 * j + i = k
      · rw [if_pos (hplace.2 hat), if_pos ⟨hat.1, hat.2 ▸ List.mem_cons_self⟩, hat.2]
      · rw [if_neg (hplace.not.2 hat), if_neg]
        rintro ⟨hlt, hin⟩
        obtain heq | hin := List.mem_cons.1 hin
        · exact hat ⟨hlt, heq⟩
        · exact hmem ⟨hlt, hin⟩

/-- Writing all ten signals into the default frame, in any order, gives the frame of the vector. -/
theorem setSignals_default (vec : BitVec 10) {ks : List Nat} (hks : ks.Perm (List.range 10)) :
    setSignals vec ks Frame.default = Frame.ofSignals vec := by
  have hmem : ∀ k, k ∈ ks ↔ k < 10 := fun k => hks.mem_iff.trans List.mem_range
  refine Frame.eq_of_bits fun j hj i hi => ?_
  rw [byte_setSignals vec _ (fun k => (hmem k).1) hj hi, Frame.byte_ofSignals vec hj hi]
  exact if_congr (and_congr_right fun _ => hmem _) rfl rfl

/-- FR_SET_BIT of each index of a list in turn. -/
theorem execAll_setBits (s : State) (vec : BitVec 10) {ks : List Nat} (f : Frame) (hks : ∀ k ∈ ks, k < 10) :
    execAll (ks.map fun k => .frSetBit (BitVec.ofNat 4 k) (vec.getLsbD k)) ((s.setFb f).ret .nothing)
      = .next ((s.setFb (setSignals vec ks f)).ret .nothing) := by
  induction ks generalizing f with
  | nil => rfl
  | cons k ks ih =>
    have hk := hks k List.mem_cons_self
    have hindex : (BitVec.ofNat 4 k).toNat = k := by
      rw [BitVec.toNat_ofNat, Nat.mod_eq_of_lt (by omega)]
    rw [List.map_cons, execAll, exec_frSetBit _ _ (hindex.trans_lt hk), hindex]
    exact ih (f.setSignal k (vec.getLsbD k)) fun k' hk' => hks k' (List.mem_cons_of_mem k hk')

/-- Settles O21: the bits written do not depend on the order, and ten indexes cover every signal. -/
theorem encodeIsClearThenSetBitsInAnyOrder : Obligations.EncodeIsClearThenSetBitsInAnyOrder := by
  unfold Obligations.EncodeIsClearThenSetBitsInAnyOrder
  intro s vec ks hks
  rw [execAll, exec_frClear]
  refine (execAll_setBits s vec Frame.default fun k hk => List.mem_range.1 (hks.subset hk)).trans ?_
  rw [setSignals_default vec hks, exec_frEncode]

/-! ### Receiving (40_framer.md R88, R89) -/

theorem receive_of_frame {s : State} {b0 b1 : Byte} {rest : List Byte} (hrx : s.rx = b0 :: b1 :: rest)
    (h0 : marker b0 = true) (h1 : marker b1 = false) : receive s = ((s.setRx rest).setFb ⟨b0, b1⟩, .ok) := by
  simp [receive, hrx, h0, h1]

theorem receive_of_badStart {s : State} {b0 b1 : Byte} {rest : List Byte} (hrx : s.rx = b0 :: b1 :: rest)
    (h0 : marker b0 = false) : receive s = ((s.setRx (b1 :: rest)).markErrored, .badStart) := by
  simp [receive, hrx, h0]

theorem receive_of_badCont {s : State} {b0 b1 : Byte} {rest : List Byte} (hrx : s.rx = b0 :: b1 :: rest)
    (h0 : marker b0 = true) (h1 : marker b1 = true) : receive s = ((s.setRx rest).markErrored, .badCont) := by
  simp [receive, hrx, h0, h1]

theorem receive_of_underrun {s : State} (h : s.rx.length < 2) : receive s = (s.markErrored, .underrun) := by
  obtain ⟨-, hr⟩ | ⟨b0, b1, rest, hrx, -⟩ := receive_cases s
  · exact hr
  · simp [hrx] at h

/-- A receive attempt writes FB, RX and the model's draw count. -/
theorem receive_frame (s : State) :
    (receive s).1 = { s with fb := (receive s).1.fb, fbDraws := (receive s).1.fbDraws, rx := (receive s).1.rx } := by
  obtain ⟨-, h⟩ | ⟨b0, b1, rest, -, ⟨-, h⟩ | ⟨-, -, h⟩ | ⟨-, -, h⟩⟩ := receive_cases s
  all_goals
    rw [h]
    rfl

/-- FB is errored after a receive attempt exactly where the attempt failed (60_exceptions.md R183). -/
theorem receive_isError (s : State) : (receive s).1.fb.b0.getLsbD 7 = false ↔ (receive s).2 ≠ .ok := by
  have herrored : ∀ u : State, u.markErrored.fb.b0.getLsbD 7 = false := fun u => by
    simpa [Frame.isError, marker] using erroredFrame_isError (Config.unreliableFrame u.fbDraws)
  obtain ⟨-, h⟩ | ⟨b0, b1, rest, -, ⟨-, h⟩ | ⟨-, -, h⟩ | ⟨h0, -, h⟩⟩ := receive_cases s
  · simp only [h, herrored]
    decide
  · simp only [h, herrored]
    decide
  · simp only [h, herrored]
    decide
  · simpa [h, marker] using h0

/-- Settles O24: one clause for each of the receiver's four cases, and its frame. -/
theorem receiveFollowsTheMarkers : Obligations.ReceiveFollowsTheMarkers := by
  unfold Obligations.ReceiveFollowsTheMarkers
  refine fun s => ⟨_, _, exec_frRx s, congrArg (State.ret · _) (receive_frame s), fun h => ?underrun,
    fun b0 b1 rest hrx h0 => ?badStart, fun b0 b1 rest hrx h0 h1 => ?badCont, fun b0 b1 rest hrx h0 h1 => ?ok,
    receive_isError s⟩
  case underrun => rw [receive_of_underrun h]; exact ⟨rfl, rfl⟩
  case badStart => rw [receive_of_badStart hrx h0]; exact ⟨rfl, rfl⟩
  case badCont => rw [receive_of_badCont hrx h0 h1]; exact ⟨rfl, rfl⟩
  case ok => rw [receive_of_frame hrx h0 h1]; exact ⟨rfl, rfl, rfl⟩

/-- Settles O25: the transaction carries the two bytes of the frame of the vector, which fit, pass both marker checks and
decode to the vector. -/
theorem busRoundTrip : Obligations.BusRoundTrip := by
  unfold Obligations.BusRoundTrip
  intro a b vec hempty hdepth
  obtain ⟨hstart, hcont⟩ := marker_frameBytes vec 0
  have harrive : b.rxArrive [frameByte0 vec, frameByte1 vec 0] = b.setRx [frameByte0 vec, frameByte1 vec 0] := by
    rw [rxArrive_of_fits (by simpa [hempty] using hdepth), hempty, List.nil_append]
  have hrx := receive_of_frame (s := b.rxArrive [frameByte0 vec, frameByte1 vec 0]) (congrArg State.rx harrive)
    hstart hcont
  refine ⟨_, _, _, ⟨9, [frameByte0 vec, frameByte1 vec 0]⟩, exec_frEncode vec a, rfl, rfl, rfl, exec_frRx _, ?_, ?_, ?_⟩
  · rw [hrx]
    rfl
  · rw [hrx]
    rfl
  · rw [exec_frDecode, hrx]
    change Host.Outcome.next (State.ret _ (.decoded (Frame.ofSignals vec).signals (Frame.ofSignals vec).isError)) = _
    rw [Frame.signals_ofSignals, Frame.ofSignals_isError]
    rfl

/-- Settles O26: FRAME is the arrival of its two bytes. -/
theorem frameArrivesInTheReceiveStream : Obligations.FrameArrivesInTheReceiveStream := by
  unfold Obligations.FrameArrivesInTheReceiveStream
  refine fun s signals spare => ⟨fun hfits => ?fits, fun _ => ?overflows⟩
  case fits =>
    obtain ⟨hstart, hcont⟩ := marker_frameBytes signals spare
    exact ⟨frameByte0 signals, frameByte1 signals spare, congrArg Host.Outcome.next (rxArrive_of_fits hfits), hstart,
      hcont, fun k hk => getLsbD_frameByte0 signals hk, fun k hk => getLsbD_frameByte1 signals spare hk,
      fun k hk => getLsbD_frameByte1_spare signals spare hk⟩
  case overflows =>
    exact ⟨_, rfl, rxArrive_length_le s _, rxArrive_frame s _⟩

/-! ### Well-formedness of FB -/

/-- Writes that are allowed no frame keep FB. -/
theorem Writes.fb_eq {s t : State} (h : Writes false s t) : t.fb = s.fb := by
  induction h with
  | refl => rfl
  | tail _ hw ih =>
    refine Eq.trans ?_ ih
    cases hw with
    | fb _ _ hframe => cases hframe
    | ports | rx | inputs | snapFrame | paint | debouncer | useDb | context | useFx | sequencer => rfl

/-- An operation that does not write the frame keeps FB. -/
theorem exec_fb_of_not_writesFrame {i : Instr} {s t : State} (h : exec i s = .next t) (hi : writesFrame i = false) :
    t.fb = s.fb := by
  have hw := exec_writes h
  rw [hi] at hw
  exact hw.fb_eq

/-- A signal bit is never a marker bit (40_framer.md R93). -/
theorem Frame.setSignal_wellFormed (f : Frame) {k : Nat} (v : Bool) (hk : k < 10) :
    (f.setSignal k v).wellFormed = f.wellFormed := by
  have hmarker : ∀ j < 2, ((f.setSignal k v).byte j).getLsbD 7 = (f.byte j).getLsbD 7 := fun j hj => by
    rw [f.byte_setSignal v hk hj (by decide), if_neg (by omega)]
  have h0 : marker (f.setSignal k v).b0 = marker f.b0 := hmarker 0 (by decide)
  have h1 : marker (f.setSignal k v).b1 = marker f.b1 := hmarker 1 (by decide)
  rw [wellFormed, wellFormed, h0, h1]

theorem receive_wellFormed {s : State} (h : (receive s).2 = .ok) : (receive s).1.fb.wellFormed = true := by
  obtain ⟨-, hr⟩ | ⟨b0, b1, rest, -, ⟨-, hr⟩ | ⟨-, -, hr⟩ | ⟨h0, h1, hr⟩⟩ := receive_cases s
  · simp [hr] at h
  · simp [hr] at h
  · simp [hr] at h
  · rw [hr]
    exact Frame.wellFormed_iff.2 ⟨h0, h1⟩

theorem exec_frRx_wellFormed {s t : State} (h : exec .frRx s = .next t) (hok : t.result = .rxStatus .ok) :
    t.fb.wellFormed = true := by
  cases h
  exact receive_wellFormed (Result.rxStatus.inj hok)

theorem exec_frLoad_wellFormed {in0 in1 : Byte} {s t : State} (h : exec (.frLoad in0 in1) s = .next t) :
    t.fb.wellFormed = true := by
  cases h
  exact Frame.wellFormed_iff.2 (Frame.sanitized_markers in0 in1)

/-- Settles O27: of the operations that write FB, FR_SET_BIT keeps the markers, FR_LOAD_RAW and a failed FR_RX are
excepted, and the four others leave good ones. -/
theorem onlyRawLoadAndFailedReceiveBreakTheFrame : Obligations.OnlyRawLoadAndFailedReceiveBreakTheFrame := by
  unfold Obligations.OnlyRawLoadAndFailedReceiveBreakTheFrame
  refine ⟨fun s t i h hwf hraw hrx => ?keeps, fun s t i h hi => ?makes⟩
  case keeps =>
    cases hi : writesFrame i with
    | false => exact (exec_fb_of_not_writesFrame h hi).symm ▸ hwf
    | true =>
      cases i with
      | frClear => cases h; exact Frame.default_wellFormed
      | frLoad _ _ => exact exec_frLoad_wellFormed h
      | frLoadRaw in0 in1 => exact absurd rfl (hraw in0 in1)
      | frSetBit k v =>
        obtain ⟨n, hn, ht⟩ := exists_ok_of_finish_bind h
        obtain ⟨hlt, rfl⟩ := signalOperand_eq_ok.1 hn
        cases ht
        exact (s.fb.setSignal_wellFormed v hlt).trans hwf
      | frEncode vec => cases h; exact Frame.ofSignals_wellFormed vec
      | frRx => exact exec_frRx_wellFormed h (hrx rfl)
      | _ => cases hi
  case makes =>
    obtain rfl | ⟨in0, in1, rfl⟩ | ⟨vec, rfl⟩ | ⟨rfl, hok⟩ := hi
    · cases h
      exact Frame.default_wellFormed
    · exact exec_frLoad_wellFormed h
    · cases h
      exact Frame.ofSignals_wellFormed vec
    · exact exec_frRx_wellFormed h hok

/-! ### Alignment (40_framer.md R92) -/

/-- An attempt and the attempts after it. -/
theorem attempts_succ {n : Nat} {s : State} {r : RxStatus} {s1 t : State} {rs : List RxStatus}
    (hr : receive s = (s1, r)) (h : attempts n (s1.ret (.rxStatus r)) = some (rs, t)) :
    attempts (n + 1) s = some (r :: rs, t) := by
  simp [attempts, exec_frRx, hr, h]

/-- On a frame boundary every attempt takes a frame. -/
theorem attempts_aligned {s : State} {fs : List Frame} {rest : List Byte} (hfs : ∀ f ∈ fs, f.wellFormed = true)
    (hrx : s.rx = frameBytes fs ++ rest) :
    ∃ t, attempts fs.length s = some (List.replicate fs.length .ok, t) ∧ t.rx = rest
      ∧ ∀ f, fs.getLast? = some f → t.fb = f := by
  induction fs generalizing s with
  | nil => exact ⟨s, rfl, hrx, nofun⟩
  | cons f fs ih =>
    obtain ⟨h0, h1⟩ := Frame.wellFormed_iff.1 (hfs f List.mem_cons_self)
    have hr := receive_of_frame (rest := frameBytes fs ++ rest) hrx h0 h1
    have hrest : ∀ g ∈ fs, g.wellFormed = true := fun g hg => hfs g (List.mem_cons_of_mem f hg)
    cases fs with
    | nil => exact ⟨_, attempts_succ hr rfl, rfl, fun g hg => Option.some.inj hg⟩
    | cons g gs =>
      obtain ⟨t, ht, htrx, hlast⟩ := ih (s := ((s.setRx _).setFb f).ret (.rxStatus .ok)) hrest rfl
      exact ⟨t, attempts_succ hr ht, htrx, fun x hx => hlast x (by simpa using hx)⟩

/-- Settles O28: on a boundary every attempt takes a frame, and an attempt on a second byte consumes it and leaves a
boundary. -/
theorem alignedFramesAreAllReceived : Obligations.AlignedFramesAreAllReceived := by
  unfold Obligations.AlignedFramesAreAllReceived
  refine fun s fs rest hfs => ⟨attempts_aligned hfs, fun b hrx hne hb => ?misaligned⟩
  case misaligned =>
    obtain ⟨f, fs, rfl⟩ := List.exists_cons_of_ne_nil hne
    have hr := receive_of_badStart (b1 := f.b0) (rest := f.b1 :: frameBytes fs ++ rest) hrx hb
    obtain ⟨t, ht, htrx, -⟩ := attempts_aligned
      (s := ((s.setRx (frameBytes (f :: fs) ++ rest)).markErrored).ret (.rxStatus .badStart)) hfs rfl
    exact ⟨t, attempts_succ hr ht, htrx⟩

/-- The attempt that a run of garbage ends with stands on the first frame or, one frame lost, on the second. -/
def Resynchronised (f g : Frame) (tail : List Byte) (rs : List RxStatus) (t : State) : Prop :=
  t.rx = f.b0 :: f.b1 :: g.b0 :: g.b1 :: tail
    ∨ (t.rx = g.b0 :: g.b1 :: tail ∧ ∃ before, rs = before ++ [.badCont, .badStart])

theorem Resynchronised.cons {f g : Frame} {tail : List Byte} {rs : List RxStatus} {t : State} (r : RxStatus)
    (h : Resynchronised f g tail rs t) : Resynchronised f g tail (r :: rs) t := by
  obtain h | ⟨h, before, rfl⟩ := h
  · exact .inl h
  · exact .inr ⟨h, r :: before, rfl⟩

/-- An attempt that leaves less garbage leaves the rest to the attempts after it. -/
theorem resynchronises_step {s s1 : State} {r : RxStatus} {f g : Frame} {tail : List Byte} {m k : Nat}
    (hr : receive s = (s1, r)) (hmk : m < k)
    (h : ∃ n rs t, n ≤ m + 1 ∧ attempts n (s1.ret (.rxStatus r)) = some (rs, t) ∧ Resynchronised f g tail rs t) :
    ∃ n rs t, n ≤ k + 1 ∧ attempts n s = some (rs, t) ∧ Resynchronised f g tail rs t := by
  obtain ⟨n, rs, t, hn, ht, hsync⟩ := h
  exact ⟨n + 1, r :: rs, t, by omega, attempts_succ hr ht, hsync.cons r⟩

/-- One garbage byte with bit 7 set before a frame costs that frame: the pair fails its continuation check, and the
frame's second byte its start check. -/
theorem resynchronises_after_marked_byte {s : State} {b : Byte} {f g : Frame} {tail : List Byte}
    (hf : f.wellFormed = true) (hb : marker b = true) (hrx : s.rx = b :: f.b0 :: f.b1 :: g.b0 :: g.b1 :: tail) :
    ∃ n rs t, n ≤ 2 ∧ attempts n s = some (rs, t) ∧ Resynchronised f g tail rs t := by
  obtain ⟨h0, h1⟩ := Frame.wellFormed_iff.1 hf
  have hcont := receive_of_badCont hrx hb h0
  have hstart := receive_of_badStart
    (s := ((s.setRx (f.b1 :: g.b0 :: g.b1 :: tail)).markErrored).ret (.rxStatus .badCont)) rfl h1
  exact ⟨2, _, _, le_rfl, attempts_succ hcont (attempts_succ hstart rfl), .inr ⟨rfl, [], rfl⟩⟩

/-- By strong induction on the garbage: an attempt takes one or two of its bytes, but for the last byte, which may take
the first frame's start with it. -/
theorem resynchronises (s : State) (garbage : List Byte) {f g : Frame} {tail : List Byte}
    (hf : f.wellFormed = true)
    (hrx : s.rx = garbage ++ f.b0 :: f.b1 :: g.b0 :: g.b1 :: tail) :
    ∃ n rs t, n ≤ garbage.length + 1 ∧ attempts n s = some (rs, t) ∧ Resynchronised f g tail rs t := by
  match garbage with
  | [] => exact ⟨0, [], s, by omega, rfl, .inl hrx⟩
  | [b] =>
    cases hb : marker b with
    | false =>
      exact resynchronises_step (receive_of_badStart hrx hb) Nat.one_pos (resynchronises _ [] hf rfl)
    | true => exact resynchronises_after_marked_byte hf hb hrx
  | b :: c :: rest =>
    cases hb : marker b with
    | false =>
      exact resynchronises_step (receive_of_badStart hrx hb) (Nat.lt_succ_self _) (resynchronises _ (c :: rest) hf rfl)
    | true =>
      have hlt : rest.length < (b :: c :: rest).length := by simp
      cases hc : marker c with
      | false => exact resynchronises_step (receive_of_frame hrx hb hc) hlt (resynchronises _ rest hf rfl)
      | true => exact resynchronises_step (receive_of_badCont hrx hb hc) hlt (resynchronises _ rest hf rfl)
termination_by garbage.length

/-- Settles O29: the receiver's alignment after garbage, for a run of frames that begins with two. -/
theorem receiverResynchronisesAfterGarbage : Obligations.ReceiverResynchronisesAfterGarbage := by
  unfold Obligations.ReceiverResynchronisesAfterGarbage
  intro s garbage f g fs rest hwf hrx
  exact resynchronises s garbage (g := g) (tail := frameBytes fs ++ rest) (hwf f List.mem_cons_self)
    (hrx.trans (List.append_assoc _ _ _))

end Sys2Proof.Machine

/-! SUPPORT. The debouncer's operations, and the edges of a run of calls (41_debouncer.md R100 to R106). -/

namespace Sys2Proof.Machine

/-! ### DB_INIT, DB_FORCE, DB_STABLE -/

theorem exec_dbInit_unused {s : State} {d : Nat} {x : Debouncer} (window : Time) (hx : s.db[d]? = some x)
    (hu : s.dbInUse d = false) :
    exec (.dbInit d window) s = .next ((s.setDb d (Debouncer.constructed window)).ret .nothing) := by
  simp [exec, execDbInit, debouncer_eq_ok.2 hx, hu]

theorem exec_dbInit_used {s : State} {d : Nat} {x : Debouncer} (window : Time) (hx : s.db[d]? = some x)
    (hu : s.dbInUse d = true) : exec (.dbInit d window) s = .refused (.opFault .reconfiguration) := by
  simp [exec, execDbInit, debouncer_eq_ok.2 hx, hu]

/-- Settles O30: the usage mark decides between construction and refusal. -/
theorem debouncerInitConstructsOnce : Obligations.DebouncerInitConstructsOnce := by
  unfold Obligations.DebouncerInitConstructsOnce
  exact fun s d x window hx => ⟨exec_dbInit_unused window hx, exec_dbInit_used window hx⟩

theorem exec_dbForce {s : State} {d : Nat} {x : Debouncer} (value : Bool) (hx : s.db[d]? = some x) :
    exec (.dbForce d value) s = .next (((s.setDb d { x with stable := value }).useDb d).ret .nothing) := by
  simp [exec, execDbForce, debouncer_eq_ok.2 hx]

theorem exec_dbStable {s : State} {d : Nat} {x : Debouncer} (hx : s.db[d]? = some x) :
    exec (.dbStable d) s = .next ((s.useDb d).ret (.bit x.stable)) := by
  simp [exec, execDbStable, debouncer_eq_ok.2 hx]

/-- Settles O32: on a debouncer of the bank both answer. -/
theorem debouncerForceAndStable : Obligations.DebouncerForceAndStable := by
  unfold Obligations.DebouncerForceAndStable
  exact fun s d x hx => ⟨fun value => exec_dbForce value hx, exec_dbStable hx⟩

/-! ### Runs of calls -/

namespace Debouncer

/-- The edges that a run of calls emits from the registers of one debouncer. -/
def edges : Debouncer → List (Time × Bool) → List Edge
  | _, [] => []
  | x, (now, reading) :: calls => (x.process now reading).2 :: (x.process now reading).1.edges calls

end Debouncer

/-- A run of DB_PROCESS on one debouncer depends on its registers alone. -/
theorem edgesOf_eq {s : State} {d : Nat} {x : Debouncer} (calls : List (Time × Bool)) (hx : s.db[d]? = some x) :
    edgesOf d calls s = some (x.edges calls) := by
  induction calls generalizing s x with
  | nil => rfl
  | cons call calls ih =>
    obtain ⟨now, reading⟩ := call
    obtain ⟨hlt, -⟩ := List.getElem?_eq_some_iff.1 hx
    have hnext := ih (s := ((s.setDb d (x.process now reading).1).useDb d).ret (.edge (x.process now reading).2))
      (List.getElem?_set_self hlt)
    simp [edgesOf, exec_dbProcess now reading hx, hnext, Debouncer.edges]

namespace Debouncer

variable {x : Debouncer} {now : Time} {reading : Bool}

/-- A reading equal to the stable value is never accepted. -/
theorem process_of_stable (h : reading = x.stable) :
    x.process now reading = (⟨x.stable, reading, x.changedAt now reading, x.tstable⟩, .none) :=
  process_of_not_accepts fun ha => ((x.accepts_iff now reading).1 ha).2 h

/-- A reading that has just changed is not accepted by a window of at least 1 ms (41_debouncer.md R105 (b)). -/
theorem process_of_changed (hw : 0 < x.tstable) (h : reading ≠ x.prev) :
    x.process now reading = (⟨x.stable, reading, now, x.tstable⟩, .none) := by
  have hchanged : x.changedAt now reading = now := by rw [changedAt_eq, if_neg h]
  rw [process_of_not_accepts, hchanged]
  rw [accepts_iff, hchanged, BitVec.sub_self]
  exact fun ha => BitVec.not_le.2 hw ha.1

/-- A reading that persists, its window not over, changes nothing. -/
theorem process_of_waiting (hprev : x.prev = reading) (hw : now - x.tchg < x.tstable) :
    x.process now reading = (x, .none) := by
  subst hprev
  have hchanged : x.changedAt now x.prev = x.tchg := by rw [changedAt_eq, if_pos rfl]
  rw [process_of_not_accepts, hchanged]
  rw [accepts_iff, hchanged]
  exact fun ha => BitVec.not_le.2 hw ha.1

/-- A reading that differs from the stable value and has persisted for the window is accepted. -/
theorem process_of_due (hstable : x.stable = !reading) (hw : x.tstable ≤ now - x.changedAt now reading) :
    x.process now reading = (⟨reading, reading, x.changedAt now reading, x.tstable⟩, edgeTo reading) :=
  process_of_accepts ((x.accepts_iff now reading).2 ⟨hw, by simp [hstable]⟩)

/-- Calls that read the stable value emit no edge. -/
theorem edges_of_stable (x : Debouncer) (times : List Time) :
    x.edges (times.map fun u => (u, x.stable)) = List.replicate times.length .none := by
  induction times generalizing x with
  | nil => rfl
  | cons u times ih =>
    rw [List.map_cons, edges, process_of_stable rfl]
    exact congrArg (Edge.none :: ·) (ih ⟨x.stable, x.stable, x.changedAt u x.stable, x.tstable⟩)

/-- Calls inside the window emit no edge and leave the registers. -/
theorem edges_of_waiting (hprev : x.prev = reading) {times : List Time} (hw : ∀ u ∈ times, u - x.tchg < x.tstable)
    (calls : List (Time × Bool)) :
    x.edges ((times.map fun u => (u, reading)) ++ calls) = List.replicate times.length .none ++ x.edges calls := by
  induction times with
  | nil => rfl
  | cons u times ih =>
    rw [List.map_cons, List.cons_append, edges, process_of_waiting hprev (hw u List.mem_cons_self),
      ih fun v hv => hw v (List.mem_cons_of_mem u hv)]
    rfl

/-- The call at or past the end of the window emits the edge, and the calls after it none. -/
theorem edges_of_due {t : Time} (hstable : x.stable = !reading) (hw : x.tstable ≤ t - x.changedAt t reading)
    (late : List Time) :
    x.edges ((t :: late).map fun u => (u, reading)) = edgeTo reading :: List.replicate late.length .none := by
  rw [List.map_cons, edges, process_of_due hstable hw]
  exact congrArg (edgeTo reading :: ·) (edges_of_stable ⟨reading, reading, x.changedAt t reading, x.tstable⟩ late)

/-- Calls whose reading changes every time emit no edge where the window is at least 1 ms. -/
theorem edges_of_alternates {calls : List (Time × Bool)} (hw : 0 < x.tstable) (h : alternates x.prev calls = true) :
    x.edges calls = List.replicate calls.length .none := by
  induction calls generalizing x with
  | nil => rfl
  | cons call calls ih =>
    obtain ⟨now, reading⟩ := call
    rw [alternates, Bool.and_eq_true, bne_iff_ne] at h
    obtain ⟨hne, hrest⟩ := h
    rw [edges, process_of_changed hw hne]
    exact congrArg (Edge.none :: ·) (ih (x := ⟨x.stable, reading, now, x.tstable⟩) hw hrest)

end Debouncer

/-- Settles O33: the first call starts the window, the calls inside it wait, the first one past it is due; a window of 0
is over at once. -/
theorem heldStepGivesExactlyOneEdge : Obligations.HeldStepGivesExactlyOneEdge := by
  unfold Obligations.HeldStepGivesExactlyOneEdge
  intro s d x reading t0 t early late hx hstable hprev hearly _ hdue
  have hne : reading ≠ x.prev := by simp [hprev]
  refine ⟨fun hw => ?window, fun hw => ?noWindow⟩
  case window =>
    have hfirst := Debouncer.process_of_changed (now := t0) hw hne
    have hdue' : Debouncer.edges ⟨x.stable, reading, t0, x.tstable⟩ ((t :: late).map fun u => (u, reading))
        = edgeTo reading :: List.replicate late.length .none :=
      Debouncer.edges_of_due (x := ⟨x.stable, reading, t0, x.tstable⟩) hstable
        (by simpa [Debouncer.changedAt_eq] using hdue) late
    rw [edgesOf_eq _ hx, List.cons_append, List.map_cons, List.map_append, Debouncer.edges, hfirst,
      Debouncer.edges_of_waiting (x := ⟨x.stable, reading, t0, x.tstable⟩) rfl fun u hu => (hearly u hu).2, hdue',
      List.replicate_succ, List.append_assoc]
    rfl
  case noWindow =>
    rw [edgesOf_eq _ hx, Debouncer.edges_of_due hstable (by rw [hw]; exact Nat.zero_le _)]
    rfl

/-- Settles O34: the excursion waits in its window, and once the reading is the stable value again no edge can come. -/
theorem shortExcursionGivesNoEdge : Obligations.ShortExcursionGivesNoEdge := by
  unfold Obligations.ShortExcursionGivesNoEdge
  intro s d x t0 during after hx hprev hw hduring
  have hfirst := Debouncer.process_of_changed (reading := !x.stable) (now := t0) hw (by simp [hprev])
  have hafter := Debouncer.edges_of_stable ⟨x.stable, !x.stable, t0, x.tstable⟩ after
  rw [edgesOf_eq _ hx, List.map_cons, List.cons_append, Debouncer.edges, hfirst,
    Debouncer.edges_of_waiting (x := ⟨x.stable, !x.stable, t0, x.tstable⟩) rfl fun u hu => (hduring u hu).2, hafter,
    List.replicate_append_replicate, Nat.add_assoc, Nat.add_comm 1]
  rfl

/-- Settles O35: every call restarts the window. -/
theorem alternatingNoiseIsAbsorbed : Obligations.AlternatingNoiseIsAbsorbed := by
  unfold Obligations.AlternatingNoiseIsAbsorbed
  exact fun s d x calls hx hw h => (edgesOf_eq calls hx).trans (congrArg some (Debouncer.edges_of_alternates hw h))

end Sys2Proof.Machine

/-! SUPPORT. The effect engines: what each operation of a context answers, and the closed-form functions of time
(42_effect_engines.md R115 to R134). -/

namespace Sys2Proof.Machine

/-! ### Configuration and activation -/

theorem setFx_of_getElem? {s : State} {e : Nat} {c : Context} (h : s.fx[e]? = some c) : s.setFx e c = s := by
  obtain ⟨hlt, rfl⟩ := List.getElem?_eq_some_iff.1 h
  simp [State.setFx]

theorem configured_of {s : State} {e : Nat} {c : Context} {k : FxConfig} (hc : s.fx[e]? = some c)
    (hk : c.config = some k) : s.configured e = .ok (c, k) :=
  configured_eq_ok.2 ⟨hc, hk⟩

theorem exec_fxConfig_used {s : State} {e : Nat} {c : Context} (k : FxConfig) (hc : s.fx[e]? = some c)
    (hu : s.fxInUse e = true) : exec (.fxConfig e k) s = .refused (.opFault .reconfiguration) := by
  simp [exec, execFxConfig, context_eq_ok.2 hc, hu]

theorem exec_fxConfig_unused {s : State} {e : Nat} {c : Context} {k : FxConfig} (hc : s.fx[e]? = some c)
    (hu : s.fxInUse e = false) :
    exec (.fxConfig e k) s = if s.configOk k = true
      then .next ((s.setFx e { Context.constructed (some k) with rolls := c.rolls }).ret .nothing)
      else .refused (.opFault .badConfiguration) := by
  simp only [exec, execFxConfig, context_eq_ok.2 hc, hu, bind_ok, Bool.false_eq_true, if_false]
  split <;> rfl

/-- A configuration is accepted when R133's constraints hold and the seed of a Flash exists. -/
theorem configOk_iff {s : State} {k : FxConfig} :
    s.configOk k = true ↔ k.legal = true ∧ ∀ color half n, k = .flash color half n → n < s.sq.length := by
  cases k with
  | flash color half n => simp [State.configOk]
  | solid _ | timedSolid _ _ | rainbow _ _ | sparkle | shimmer _ => simp [State.configOk]

/-- Settles O36: the usage mark, then `configOk`, decide what FX_CONFIG answers. -/
theorem fxConfigConstructsOnce : Obligations.FxConfigConstructsOnce := by
  unfold Obligations.FxConfigConstructsOnce
  refine fun s e c k hc => ⟨fun hu hlegal hseed => ?constructed, exec_fxConfig_used k hc, fun hu hbad => ?refused⟩
  case constructed =>
    rw [exec_fxConfig_unused hc hu, if_pos (configOk_iff.2 ⟨hlegal, hseed⟩)]
    rfl
  case refused =>
    rw [exec_fxConfig_unused hc hu, if_neg]
    intro hok
    obtain ⟨hlegal, hseed⟩ := configOk_iff.1 hok
    obtain hillegal | ⟨color, half, n, hk, hn⟩ := hbad
    · exact absurd hlegal (by simp [hillegal])
    · exact absurd (hseed color half n hk) (Nat.not_lt.2 hn)

theorem fxActivate_of {s : State} {e : Nat} {c : Context} {k : FxConfig} (now : Time) (hc : s.fx[e]? = some c)
    (hk : c.config = some k) :
    fxActivate e now s = .ok ((s.setFx e (c.activate k s.params.flashDuration e now)).useFx e) :=
  fxActivate_eq_ok.2 ⟨c, k, hc, hk, rfl⟩

theorem exec_fxActivate {s : State} {e : Nat} {c : Context} {k : FxConfig} (now : Time) (hc : s.fx[e]? = some c)
    (hk : c.config = some k) :
    exec (.fxActivate e now) s
      = .next (((s.setFx e (c.activate k s.params.flashDuration e now)).useFx e).ret .nothing) := by
  simp [exec, execFxActivate, fxActivate_of now hc hk]

theorem activate_of_ne_sparkle (c : Context) {k : FxConfig} (fd e : Nat) (now : Time) (h : k ≠ .sparkle) :
    c.activate k fd e now = { c with tact := some now } := by
  cases k with
  | sparkle => exact absurd rfl h
  | solid _ | timedSolid _ _ | flash _ _ _ | rainbow _ _ | shimmer _ => rfl

/-- Settles O37: the hook of the kind, which only a Sparkle has. -/
theorem activateRecordsTheTime : Obligations.ActivateRecordsTheTime := by
  unfold Obligations.ActivateRecordsTheTime
  intro s e c k now hc hk
  refine ⟨_, exec_fxActivate now hc hk, activate_of_ne_sparkle c _ e now, fun hsparkle => ?sparkle⟩
  case sparkle =>
    subst hsparkle
    exact ⟨_, drawDark_le _ _ _, rfl⟩

/-- Settles O43: the seed of a sequencer of the bank. -/
theorem seedWritesOneRegister : Obligations.SeedWritesOneRegister := by
  unfold Obligations.SeedWritesOneRegister
  intro s n q now hq
  have hseed : fxSeed n now s = .ok (s.setSq n { q with seed := some now }) := fxSeed_eq_ok.2 ⟨q, hq, rfl⟩
  simp only [exec, execFxSeed, hseed, bind_ok, pure_eq_ok, finish_ok]
  rfl

/-! ### FX_TICK -/

theorem fxTick_of {s : State} {e slot : Nat} {now : Time} {c c' : Context} {k : FxConfig} {color : Colour}
    (hslot : slot < s.ledCount) (hc : s.fx[e]? = some c) (hk : c.config = some k)
    (ht : tickOf s.params e c k now = .ok (c', color)) :
    fxTick e slot now s = .ok (((s.setFx e c').paint slot color).useFx e) :=
  fxTick_eq_ok.2 ⟨hslot, c, k, c', color, hc, hk, ht, rfl⟩

theorem exec_fxTick {s : State} {e slot : Nat} {now : Time} {c c' : Context} {k : FxConfig} {color : Colour}
    (hslot : slot < s.ledCount) (hc : s.fx[e]? = some c) (hk : c.config = some k)
    (ht : tickOf s.params e c k now = .ok (c', color)) :
    exec (.fxTick e slot now) s = .next ((((s.setFx e c').paint slot color).useFx e).ret .nothing) := by
  simp [exec, execFxTick, fxTick_of hslot hc hk ht]

/-- A tick that leaves its context as it was writes the slot, the usage mark and the result port. -/
theorem exec_fxTick_keeping {s : State} {e slot : Nat} {now : Time} {c : Context} {k : FxConfig} {color : Colour}
    (hslot : slot < s.ledCount) (hc : s.fx[e]? = some c) (hk : c.config = some k)
    (ht : tickOf s.params e c k now = .ok (c, color)) :
    exec (.fxTick e slot now) s = .next (((s.paint slot color).useFx e).ret .nothing) := by
  rw [exec_fxTick hslot hc hk ht, setFx_of_getElem? hc]

theorem tickOf_rainbow (p : Config.Params) (e : Nat) (c : Context) (now : Time) {ledCount index : Nat}
    (h : index < ledCount) :
    tickOf p e c (.rainbow ledCount index) now = .ok (c, Config.hsv2rgb
      (BitVec.ofNat 8 ((hueBase p.rainbowPeriod now + hueOffset index ledCount) % 256)) 255 255) := by
  simp [tickOf, hueOf_eq_ok.2 ⟨h, rfl⟩]

/-- Settles O38: the colour of each of the four kinds, painted into the slot. -/
theorem tickPaintsOneSlot : Obligations.TickPaintsOneSlot := by
  unfold Obligations.TickPaintsOneSlot
  rintro s e slot now k color ⟨c, hc, hk⟩ hslot hcolor
  have ht : tickOf s.params e c k now = .ok (c, color) := by
    obtain rfl | ⟨lifetime, rfl⟩ | ⟨half, n, rfl⟩ | ⟨ledCount, index, rfl, hindex, rfl⟩ := hcolor
    · rfl
    · rfl
    · rfl
    · exact tickOf_rainbow s.params e c now hindex
  exact ⟨_, exec_fxTick_keeping hslot hc hk ht, Memory.read_write_same s.cb slot color,
    fun a ha => Memory.read_write_other s.cb color ha, rfl⟩

theorem exec_fxShimmerLevel {s : State} {e : Nat} {t : Time} {c : Context} {k : FxConfig} {level : Byte}
    (hc : s.fx[e]? = some c) (hk : c.config = some k) (hlevel : levelOf k t.toNat = .ok level) :
    exec (.fxShimmerLevel e t) s = .next ((s.useFx e).ret (.level level)) := by
  simp [exec, execFxShimmerLevel, configured_of hc hk, hlevel]

theorem tickOf_shimmer (p : Config.Params) (e : Nat) {c : Context} {q : ShimmerParams} (now : Time) {tact : Time}
    (htact : c.tact = some tact) (hq : 1 ≤ q.duration) :
    tickOf p e c (.shimmer q) now = .ok (c, ⟨shimmerLevel q ((now - tact).toNat % q.duration),
      shimmerLevel q ((now - tact).toNat % q.duration), shimmerLevel q ((now - tact).toNat % q.duration)⟩) := by
  simp [tickOf, htact, levelOf_mod hq]

/-- Settles O39: the tick and FX_SHIMMER_LEVEL ask the same level, the time since activation modulo the duration. -/
theorem shimmerTickPaintsItsLevel : Obligations.ShimmerTickPaintsItsLevel := by
  unfold Obligations.ShimmerTickPaintsItsLevel
  intro s e slot now tact c p hc hk htact hslot hp
  have htime : (BitVec.ofNat 32 ((now - tact).toNat % p.duration)).toNat = (now - tact).toNat % p.duration := by
    rw [BitVec.toNat_ofNat, Nat.mod_eq_of_lt ((Nat.mod_le _ _).trans_lt (now - tact).isLt)]
  exact ⟨_, _, shimmerLevel p ((now - tact).toNat % p.duration),
    exec_fxTick_keeping hslot hc hk (tickOf_shimmer s.params e now htact hp),
    exec_fxShimmerLevel hc hk (htime.symm ▸ levelOf_mod hp _), rfl, Memory.read_write_same s.cb slot _,
    fun a ha => Memory.read_write_other s.cb _ ha, rfl⟩

theorem tickOf_sparkle (p : Config.Params) (e : Nat) {c : Context} (now : Time) {t0 dark : Time}
    (ht0 : c.spT0 = some t0) (hdark : c.spDark = some dark) :
    tickOf p e c .sparkle now = .ok (sparkleTick p e c now t0 dark) := by
  simp [tickOf, ht0, hdark]

section

variable {p : Config.Params} {e : Nat} {c : Context} {now t0 dark : Time}

theorem sparkleTick_of_dark (h : (now - t0).toNat < dark.toNat) :
    sparkleTick p e c now t0 dark = (c, p.sparkleDarkColor) :=
  if_pos h

theorem sparkleTick_of_bright (hdark : dark.toNat ≤ (now - t0).toNat)
    (h : (now - t0).toNat < dark.toNat + p.sparklePulseWidth) :
    sparkleTick p e c now t0 dark = (c, p.sparkleColor) :=
  (if_neg (Nat.not_lt.2 hdark)).trans (if_pos h)

theorem sparkleTick_of_ended (h : dark.toNat + p.sparklePulseWidth ≤ (now - t0).toNat) :
    sparkleTick p e c now t0 dark = (c.roll p.flashDuration e now, p.sparkleDarkColor) :=
  (if_neg (Nat.not_lt.2 (Nat.le_of_add_right_le h))).trans (if_neg (Nat.not_lt.2 h))

end

/-- Settles O40: the three intervals of a Sparkle's cycle. -/
theorem sparkleTickFollowsItsCycle : Obligations.SparkleTickFollowsItsCycle := by
  unfold Obligations.SparkleTickFollowsItsCycle
  intro s e slot now t0 dark c hc hk ht0 hdark hslot
  refine ⟨_, (sparkleTick s.params e c now t0 dark).2, (sparkleTick s.params e c now t0 dark).1,
    exec_fxTick hslot hc hk (tickOf_sparkle s.params e now ht0 hdark),
    Memory.read_write_same s.cb slot _, fun a ha => Memory.read_write_other s.cb _ ha, rfl, fun h => ?dark,
    fun hd h => ?bright, fun h => ?ended⟩
  case dark => rw [sparkleTick_of_dark h]; exact ⟨rfl, rfl⟩
  case bright => rw [sparkleTick_of_bright hd h]; exact ⟨rfl, rfl⟩
  case ended => rw [sparkleTick_of_ended h]; exact ⟨rfl, _, drawDark_le _ _ _, rfl⟩

/-! ### FX_EXPIRED -/

theorem fxExpired_of {s : State} {e : Nat} {now : Time} {c : Context} {k : FxConfig} {expired : Bool}
    (hc : s.fx[e]? = some c) (hk : c.config = some k) (h : expiredOf s c k now = .ok expired) :
    fxExpired e now s = .ok expired :=
  fxExpired_eq_ok.2 ⟨c, k, hc, hk, h⟩

theorem exec_fxExpired {s : State} {e : Nat} {now : Time} {expired : Bool} (h : fxExpired e now s = .ok expired) :
    exec (.fxExpired e now) s = .next ((s.useFx e).ret (.bit expired)) := by
  simp [exec, execFxExpired, h]

theorem expiredOf_timedSolid (s : State) {c : Context} (color : Colour) (lifetime now : Time) {tact : Time}
    (htact : c.tact = some tact) :
    expiredOf s c (.timedSolid color lifetime) now = .ok (decide (lifetime.toNat ≤ (now - tact).toNat)) := by
  simp [expiredOf, htact, elapsed, tsub, BitVec.le_def]

theorem expiredOf_flash {s : State} (c : Context) (color : Colour) (half : Bool) {n : Nat} (now : Time)
    {q : Sequencer} {seed : Time} (hq : s.sq[n]? = some q) (hseed : q.seed = some seed) :
    expiredOf s c (.flash color half n) now = .ok (half != firstHalf s.params.flashDuration now seed) := by
  simp [expiredOf, seedRegister_eq_ok.2 ⟨q, hq, hseed⟩]

/-- Settles O41: the last column of R115's table, kind by kind. -/
theorem expiryFollowsTheTable : Obligations.ExpiryFollowsTheTable := by
  unfold Obligations.ExpiryFollowsTheTable
  intro s e c k now expired hc hk hexpired
  refine exec_fxExpired (fxExpired_of hc hk ?_)
  obtain ⟨⟨color, rfl⟩ | ⟨n, i, rfl⟩ | rfl | ⟨p, rfl⟩, rfl⟩ | ⟨color, lifetime, tact, rfl, htact, rfl⟩
    | ⟨color, half, n, q, seed, rfl, hq, hseed, rfl⟩ := hexpired
  · rfl
  · rfl
  · rfl
  · rfl
  · exact expiredOf_timedSolid s color lifetime now htact
  · exact expiredOf_flash c color half now hq hseed

/-! ### The square wave (42_effect_engines.md R121, R131) -/

/-- A window of one period counts the same wherever it starts. -/
theorem count_shift {Q : ℕ → Prop} [DecidablePred Q] {m : ℕ} (hQ : Function.Periodic Q m) (a : ℕ) :
    Nat.count (fun k => Q (a + k)) m = Nat.count Q m := by
  have hshifted : Nat.count (fun k => Q (m + k)) a = Nat.count Q a := by
    simp only [Nat.add_comm m, hQ _]
  have hleft := Nat.count_add Q a m
  have hright := Nat.count_add Q m a
  rw [Nat.add_comm a m] at hleft
  omega

theorem count_periods {Q : ℕ → Prop} [DecidablePred Q] {m : ℕ} (hQ : Function.Periodic Q m) (n : ℕ) :
    Nat.count Q (n * m) = n * Nat.count Q m := by
  induction n with
  | zero => simp
  | succ n ih => rw [Nat.succ_mul, Nat.count_add, ih, count_shift hQ, Nat.succ_mul]

/-- Half of a period is below its half. -/
theorem count_lower_half (d : ℕ) : Nat.count (fun i => i % (2 * d) < d) (2 * d) = d := by
  have hlow : Nat.count (fun i => i % (2 * d) < d) d = d :=
    Nat.count_iff_forall.2 fun i hi => (Nat.mod_le _ _).trans_lt hi
  have hhigh : Nat.count (fun i => (d + i) % (2 * d) < d) d = 0 :=
    Nat.count_iff_forall_not.2 fun i hi => by rw [Nat.mod_eq_of_lt (by omega)]; omega
  rw [Nat.two_mul, Nat.count_add, ← Nat.two_mul, hlow, hhigh, Nat.add_zero]

/-- Over `n` periods from any start the lower half has `n` half-periods. -/
theorem count_lower_halves (a d n : ℕ) :
    Nat.count (fun i => (a + i) % (2 * d) < d) (n * (2 * d)) = n * d := by
  have hperiod : Function.Periodic (fun i => i % (2 * d) < d) (2 * d) := fun i =>
    congrArg (· < d) (Nat.add_mod_right i (2 * d))
  have hperiods : Function.Periodic (fun i => i % (2 * d) < d) (n * (2 * d)) := hperiod.nat_mul n
  rw [count_shift hperiods a, count_periods hperiod, count_lower_half]

theorem toNat_add_ofNat_sub {start seed : Time} {i : ℕ} (h : (start - seed).toNat + i < 2 ^ 32) :
    (start + BitVec.ofNat 32 i - seed).toNat = (start - seed).toNat + i := by
  have hcomm : start + BitVec.ofNat 32 i - seed = start - seed + BitVec.ofNat 32 i := by
    rw [BitVec.sub_eq_add_neg, BitVec.sub_eq_add_neg, BitVec.add_assoc, BitVec.add_comm (BitVec.ofNat 32 i),
      ← BitVec.add_assoc]
  rw [hcomm, BitVec.toNat_add, BitVec.toNat_ofNat, Nat.add_mod_mod, Nat.mod_eq_of_lt h]

/-- Settles O45: inside the interval the time since the seed counts up by one, and the wave is periodic in it. -/
theorem flashHalvesBalance : Obligations.FlashHalvesBalance := by
  unfold Obligations.FlashHalvesBalance
  intro s start seed n _ hwrap
  rw [← count_lower_halves (start - seed).toNat s.params.flashDuration n, Nat.count, List.countP_eq_length_filter]
  refine congrArg List.length (List.filter_congr fun i hi => ?_)
  have hi := List.mem_range.1 hi
  change (Result.bit (firstHalf s.params.flashDuration (start + BitVec.ofNat 32 i) seed) == .bit true) = _
  rw [Bool.eq_iff_iff, beq_iff_eq, Result.bit.injEq, firstHalf_iff, toNat_add_ofNat_sub (by omega), decide_eq_true_iff]

/-! ### The hue (42_effect_engines.md R125) -/

theorem exec_fxHue {s : State} {now : Time} {index ledCount : Nat} (h : index < ledCount) :
    exec (.fxHue now index ledCount) s = .next (s.ret (.hue
      (BitVec.ofNat 8 ((hueBase s.params.rainbowPeriod now + hueOffset index ledCount) % 256)))) := by
  simp [exec, execFxHue, hueOf_eq_ok.2 ⟨h, rfl⟩]

/-- Settles O46: `hueOf` and the refusal of D8. -/
theorem hueFollowsItsFormula : Obligations.HueFollowsItsFormula := by
  unfold Obligations.HueFollowsItsFormula
  refine fun s now index ledCount _ => ⟨fun h => ⟨_, exec_fxHue h, ?hue⟩, fun h => ?refused⟩
  case hue =>
    rw [BitVec.toNat_ofNat]
    exact Nat.mod_mod _ _
  case refused => simp [exec, execFxHue, hueOf, Nat.not_lt.2 h]

theorem hueBase_add_period {period : Nat} {now : Time} (h : now.toNat + period < 2 ^ 32) :
    hueBase period (now + BitVec.ofNat 32 period) = hueBase period now := by
  rw [hueBase, hueBase, BitVec.toNat_add, BitVec.toNat_ofNat, Nat.add_mod_mod, Nat.mod_eq_of_lt h, Nat.add_mod_right]

/-- The index adds its own offset to the hue of index 0. -/
theorem hue_eq_add_offset (base index ledCount : Nat) :
    BitVec.ofNat 8 ((base + hueOffset index ledCount) % 256)
      = BitVec.ofNat 8 ((base + hueOffset 0 ledCount) % 256) + BitVec.ofNat 8 (index * 256 / ledCount) := by
  apply BitVec.eq_of_toNat_eq
  simp [hueOffset]

/-- Settles O47: a period later the hue's part of the time is the same, and the index adds its offset. -/
theorem hueTurnsAndTravels : Obligations.HueTurnsAndTravels := by
  unfold Obligations.HueTurnsAndTravels
  intro s now index ledCount _ hindex hwrap
  refine ⟨?turns, _, _, exec_fxHue hindex, exec_fxHue (Nat.zero_lt_of_lt hindex), hue_eq_add_offset _ index ledCount,
    Nat.div_lt_of_lt_mul (Nat.mul_lt_mul_of_pos_right hindex (by decide))⟩
  case turns => rw [exec_fxHue hindex, exec_fxHue hindex, hueBase_add_period hwrap]

/-! ### The Shimmer level (42_effect_engines.md R129, R132) -/

theorem clampRat_eq (q : Rat) : clampRat 0 255 q = max 0 (min 255 q) := by
  unfold clampRat
  split
  · next h => rw [max_eq_left ((min_le_right 255 q).trans h.le)]
  · next h =>
    split
    · next h' => rw [min_eq_left h'.le, max_eq_right (by norm_num)]
    · next h' => rw [min_eq_right (not_lt.1 h'), max_eq_right (not_lt.1 h)]

/-- The level is the floor of the clamped brightness. -/
theorem toNat_shimmerLevel (p : ShimmerParams) (t : Nat) :
    ((shimmerLevel p t).toNat : Int) = ⌊max 0 (min 255 (shimmerRaw p t))⌋ := by
  have hnonneg : 0 ≤ ⌊max 0 (min 255 (shimmerRaw p t))⌋ := Int.floor_nonneg.2 (le_max_left _ _)
  have hle : ⌊max 0 (min 255 (shimmerRaw p t))⌋ ≤ 255 :=
    Int.floor_le_iff.2 ((max_le (by norm_num) (min_le_left _ _)).trans_lt (by norm_num))
  have hfloor : (clampRat 0 255 (shimmerRaw p t)).floor = ⌊max 0 (min 255 (shimmerRaw p t))⌋ :=
    congrArg Rat.floor (clampRat_eq _)
  rw [shimmerLevel, BitVec.toNat_ofNat, hfloor]
  omega

/-- Settles O48: a Shimmer's level is what its formula gives, and the other operands are refused. -/
theorem shimmerLevelFollowsItsFormula : Obligations.ShimmerLevelFollowsItsFormula := by
  unfold Obligations.ShimmerLevelFollowsItsFormula
  refine fun s e t => ⟨fun p ⟨c, hc, hk⟩ ht => ?level, fun p ⟨c, hc, hk⟩ ht => ?late, fun k ⟨c, hc, hk⟩ hne => ?kind⟩
  case level =>
    refine ⟨_, exec_fxShimmerLevel hc hk (levelOf_eq_ok.2 ⟨p, rfl, ht, rfl⟩), ?_⟩
    rintro _ _ _ _ rfl rfl rfl rfl
    exact toNat_shimmerLevel p t.toNat
  case late => simp [exec, execFxShimmerLevel, configured_of hc hk, levelOf, Nat.not_lt.2 ht]
  case kind =>
    have hlevel : levelOf k t.toNat = opFault .notShimmer := by
      cases k with
      | shimmer p => exact absurd rfl (hne p)
      | solid _ | timedSolid _ _ | flash _ _ _ | rainbow _ _ | sparkle => rfl
    simp [exec, execFxShimmerLevel, configured_of hc hk, hlevel]

/-- A greater distance gives no greater level. -/
theorem shimmerLevel_anti {p p' : ShimmerParams} {t : Nat} (hfactor : p.distanceFactor = p'.distanceFactor)
    (hdist : shimmerDist2 p t ≤ shimmerDist2 p' t) : shimmerLevel p' t ≤ shimmerLevel p t := by
  have hraw : shimmerRaw p' t ≤ shimmerRaw p t := by
    rw [shimmerRaw, shimmerRaw, hfactor]
    exact sub_le_sub_left (mul_le_mul_of_nonneg_left hdist (mul_self_nonneg _)) _
  have hfloor := Int.floor_le_floor (max_le_max_left 0 (min_le_min_left 255 hraw))
  rw [← toNat_shimmerLevel, ← toNat_shimmerLevel] at hfloor
  exact BitVec.le_def.2 (by exact_mod_cast hfloor)

/-- Settles O49: clamping and rounding keep the order. -/
theorem shimmerFallsWithDistance : Obligations.ShimmerFallsWithDistance := by
  unfold Obligations.ShimmerFallsWithDistance
  rintro s e e' p p' t ⟨c, hc, hk⟩ ⟨c', hc', hk'⟩ ht ht' hfactor hdist
  exact ⟨_, _, _, _, exec_fxShimmerLevel hc hk (levelOf_eq_ok.2 ⟨p, rfl, ht, rfl⟩),
    exec_fxShimmerLevel hc' hk' (levelOf_eq_ok.2 ⟨p', rfl, ht', rfl⟩), rfl, rfl, shimmerLevel_anti hfactor hdist⟩

/-! ### Numbers outside their bank (30_encoding.md R67) -/

theorem debouncer_of_length_le {s : State} {d : Nat} (h : s.db.length ≤ d) :
    s.debouncer d = opFault .noSuchDebouncer := by
  simp [State.debouncer, List.getElem?_eq_none h]

theorem context_of_length_le {s : State} {e : Nat} (h : s.fx.length ≤ e) : s.context e = opFault .noSuchContext := by
  simp [State.context, List.getElem?_eq_none h]

theorem configured_of_length_le {s : State} {e : Nat} (h : s.fx.length ≤ e) :
    s.configured e = opFault .noSuchContext := by
  simp [State.configured, List.getElem?_eq_none h]

theorem configured_of_none {s : State} {e : Nat} {c : Context} (hc : s.fx[e]? = some c) (hk : c.config = none) :
    s.configured e = opFault .unconfigured := by
  simp [State.configured, hc, hk]

theorem slotOperand_of_lt {s : State} {slot : Nat} (h : slot < s.ledCount) : s.slotOperand slot = .ok () :=
  slotOperand_eq_ok.2 h

theorem slotOperand_of_ge {s : State} {slot : Nat} (h : s.ledCount ≤ slot) :
    s.slotOperand slot = opFault .slotOutOfRange :=
  if_neg (Nat.not_lt.2 h)

/-- An operation that reads a context's configuration is refused with the cause that the read is. -/
theorem exec_of_configured_opFault {s : State} {e slot : Nat} {r : Reserved} (now : Time)
    (hslot : slot < s.ledCount) (h : s.configured e = opFault r) :
    exec (.fxActivate e now) s = .refused (.opFault r) ∧ exec (.fxTick e slot now) s = .refused (.opFault r)
      ∧ exec (.fxExpired e now) s = .refused (.opFault r) ∧ exec (.fxShimmerLevel e now) s = .refused (.opFault r) := by
  simp [exec, execFxActivate, fxActivate, execFxTick, fxTick, execFxExpired, fxExpired, execFxShimmerLevel, h,
    slotOperand_of_lt hslot]

/-- Settles O50: each operation's first read of the bank, or of the slot, is refused. -/
theorem reservedInstancesAreRefused : Obligations.ReservedInstancesAreRefused := by
  unfold Obligations.ReservedInstancesAreRefused
  refine ⟨fun s d now b h => ?debouncers, fun s e slot now k h hslot => ?contexts,
    fun s e slot now c hc hk hslot => ?unconfigured, fun s e slot now h => ?slots, fun s l now h => ?sequencers⟩
  case debouncers =>
    simp [exec, execDbInit, execDbProcess, dbProcess, execDbForce, execDbStable, debouncer_of_length_le h]
  case contexts =>
    refine ⟨?_, exec_of_configured_opFault now hslot (configured_of_length_le h)⟩
    simp [exec, execFxConfig, context_of_length_le h]
  case unconfigured => exact exec_of_configured_opFault now hslot (configured_of_none hc hk)
  case slots => simp [exec, execFxTick, fxTick, slotOperand_of_ge h]
  case sequencers =>
    simp [exec, execFxSeed, fxSeed, execSqTick, sqTick, State.sequencer, List.getElem?_eq_none h]

end Sys2Proof.Machine

/-! SUPPORT. The aggregator: AG_UPDATE step by step, and its queries (43_aggregator_and_sequencer.md R151 to R157). -/

namespace Sys2Proof.Machine

/-! ### The steps of AG_UPDATE -/

/-- The snapshot's frame becomes FB where FB's start marker is set (R152). -/
theorem attachFrame_eq (s : State) :
    s.attachFrame = s.setSnapFrame (if s.fb.b0.getLsbD 7 = true then s.fb else s.snapFrame) := by
  unfold State.attachFrame Frame.isError marker
  cases s.fb.b0.getLsbD 7 <;> rfl

theorem recordPulse_eq (s : State) (now : Time) (e : Edge) :
    s.recordPulse now e = { s with
      pulseStart := if e = .toHigh then now else s.pulseStart
      pulseArmed := if e = .toHigh then true else s.pulseArmed } := by
  unfold State.recordPulse
  split <;> rfl

theorem advanceMode_eq (s : State) (e : Edge) :
    s.advanceMode e = s.setMode (if e = .toHigh then s.mode.succ else s.mode) := by
  unfold State.advanceMode
  split <;> rfl

/-- `s` after a scroll signal has left `y` in DB[i]. -/
def State.debounced (s : State) (i : Nat) (y : Debouncer) : State := (s.setDb i y).useDb i

@[simp] theorem State.debounced_db (s : State) (i : Nat) (y : Debouncer) : (s.debounced i y).db = s.db.set i y := rfl

theorem debounceScroll_of {s : State} {i : Nat} {x : Debouncer} {f : Frame} (now : Time) (hx : s.db[i]? = some x)
    (hf : s.snapFrame = f) :
    debounceScroll i now s
      = .ok (s.debounced i (x.process now (f.signal (6 + i))).1, (x.process now (f.signal (6 + i))).2) :=
  dbProcess_eq_ok.2 ⟨x, hx, by rw [hf]; rfl, by rw [hf]⟩

theorem analogOperand_of_le {level : BitVec 16} (h : level.toNat ≤ 1023) : analogOperand level = .ok () :=
  analogOperand_eq_ok.2 h

theorem analogOperand_of_gt {level : BitVec 16} (h : 1023 < level.toNat) :
    analogOperand level = opFault .analogRange :=
  if_neg (Nat.not_le.2 h)

/-- AG_UPDATE with the four debouncers and levels in range (R151 to R154, R156). -/
theorem exec_agUpdate {s : State} {now : Time} {i : RawInputs} {x0 x1 x2 x3 : Debouncer} {later : List Debouncer}
    {f : Frame} (hdb : s.db = x0 :: x1 :: x2 :: x3 :: later) (hfuel : i.fuel.toNat ≤ 1023)
    (htemperature : i.temperature.toNat ≤ 1023) (hoil : i.oil.toNat ≤ 1023)
    (hf : f = if s.fb.b0.getLsbD 7 = true then s.fb else s.snapFrame) :
    exec (.agUpdate now i.ignition i.backlightDim i.tachWarning i.tachCritical i.fuel i.temperature i.oil) s =
      .next { s with
        snapInputs := some i
        snapFrame := f
        db := (x0.process now (f.signal 6)).1 :: (x1.process now (f.signal 7)).1 :: (x2.process now (f.signal 8)).1
          :: (x3.process now (f.signal 9)).1 :: later
        dbUsed := (((s.dbUsed.set 0 true).set 1 true).set 2 true).set 3 true
        pulseStart := if (x0.process now (f.signal 6)).2 = .toHigh then now else s.pulseStart
        pulseArmed := if (x0.process now (f.signal 6)).2 = .toHigh then true else s.pulseArmed
        mode := if (x2.process now (f.signal 8)).2 = .toHigh then s.mode.succ else s.mode
        result := .edges (x0.process now (f.signal 6)).2 (x1.process now (f.signal 7)).2
          (x2.process now (f.signal 8)).2 (x3.process now (f.signal 9)).2 } := by
  have hattach : (s.setInputs i).attachFrame = (s.setInputs i).setSnapFrame f := by
    rw [attachFrame_eq, hf]
    rfl
  have h0 := debounceScroll_of (i := 0) (x := x0) (f := f) now (s := (s.setInputs i).setSnapFrame f)
    (by simp [hdb]) rfl
  have h1 := debounceScroll_of (i := 1) (x := x1) (f := f) now (s := ((s.setInputs i).setSnapFrame f).debounced 0
    (x0.process now (f.signal 6)).1) (by simp [hdb]) rfl
  have h2 := debounceScroll_of (i := 2) (x := x2) (f := f) now (s := (((s.setInputs i).setSnapFrame f).debounced 0
    (x0.process now (f.signal 6)).1).debounced 1 (x1.process now (f.signal 7)).1) (by simp [hdb]) rfl
  have h3 := debounceScroll_of (i := 3) (x := x3) (f := f) now (s := ((((s.setInputs i).setSnapFrame f).debounced 0
    (x0.process now (f.signal 6)).1).debounced 1 (x1.process now (f.signal 7)).1).debounced 2
    (x2.process now (f.signal 8)).1) (by simp [hdb]) rfl
  simp only [Nat.reduceAdd] at h0 h1 h2 h3
  simp only [exec, execAgUpdate, analogOperand_of_le hfuel, analogOperand_of_le htemperature,
    analogOperand_of_le hoil, bind_ok, hattach, h0, h1, h2, h3, pure_eq_ok, finish_ok, recordPulse_eq, advanceMode_eq]
  simp only [State.setInputs, State.setSnapFrame, State.debounced, State.setDb, State.useDb, State.setMode, State.ret,
    hdb]
  rfl

/-- Settles O51: the steps of AG_UPDATE in their order, and the refusal of its operand checks. -/
theorem aggregatorUpdate : Obligations.AggregatorUpdate := by
  unfold Obligations.AggregatorUpdate
  refine ⟨fun s now i x0 x1 x2 x3 later hdb hfuel htemperature hoil => ?update, fun s now i h => ?refused⟩
  case update =>
    exact ⟨_, _, _, _, _, _, _, _, _, rfl, rfl, rfl, rfl, rfl, exec_agUpdate hdb hfuel htemperature hoil rfl⟩
  case refused =>
    have hcheck : ∀ level : BitVec 16, 1023 < level.toNat ∨ analogOperand level = .ok () := fun level =>
      (Nat.lt_or_ge 1023 level.toNat).imp_right analogOperand_of_le
    obtain hfuel | hfuel := hcheck i.fuel
    · simp [exec, execAgUpdate, analogOperand_of_gt hfuel]
    obtain htemperature | htemperature := hcheck i.temperature
    · simp [exec, execAgUpdate, hfuel, analogOperand_of_gt htemperature]
    obtain hoil | hoil := hcheck i.oil
    · simp [exec, execAgUpdate, hfuel, htemperature, analogOperand_of_gt hoil]
    · have hin : ∀ {level : BitVec 16}, analogOperand level = .ok () → ¬1023 < level.toNat := fun h =>
        Nat.not_lt.2 (analogOperand_eq_ok.1 h)
      exact absurd h (by simp [hin hfuel, hin htemperature, hin hoil, -not_lt])

/-! ### The queries -/

theorem exec_agPulseQ (now : Time) (s : State) : exec (.agPulseQ now) s
    = .next (s.ret (.bit (s.pulseArmed && within now s.pulseStart s.params.canPulseWidth))) := rfl

/-- Settles O52: the bit with the property the statement gives it is the armed window. -/
theorem pulseAndModeQueries : Obligations.PulseAndModeQueries := by
  unfold Obligations.PulseAndModeQueries
  refine fun s now => ⟨fun inPulse h => ?pulse, rfl⟩
  case pulse =>
    obtain rfl : inPulse = (s.pulseArmed && within now s.pulseStart s.params.canPulseWidth) := by
      rw [Bool.eq_iff_iff, h, Bool.and_eq_true, within, decide_eq_true_iff]
    exact exec_agPulseQ now s

end Sys2Proof.Machine

/-! SUPPORT. The sequencers: what a SQ_TICK that may choose, or that holds its context, leaves
(43_aggregator_and_sequencer.md R158 to R167), and the registers whose read faults. -/

namespace Sys2Proof.Machine

/-! ### References -/

/-- The current context is that of a role when the reference is the role's context and is not null. -/
theorem isAt_iff_cur_eq {q : Sequencer} {r : Role} : q.isAt r = true ↔ q.cur ≠ none ∧ q.cur = q.context r := by
  rw [isAt_iff]
  constructor
  · rintro ⟨e, hcur, hctx⟩
    exact ⟨by simp [hcur], hcur.trans hctx.symm⟩
  · rintro ⟨hne, heq⟩
    obtain ⟨e, hcur⟩ := Option.ne_none_iff_exists'.1 hne
    exact ⟨e, hcur, heq.symm.trans hcur⟩

/-- A sequencer that is null or at neither loud context is in no loud phase. -/
theorem not_isAt_loud {q : Sequencer}
    (h : q.cur = none ∨ (q.cur ≠ q.context .redLoud ∧ q.cur ≠ q.context .amberLoud)) :
    ¬q.isAt .redLoud = true ∧ ¬q.isAt .amberLoud = true := by
  simp only [isAt_iff_cur_eq]
  tauto

/-- Entering a context that is not loud never re-arms the seed (R163). -/
theorem not_rearms_of_not_loud {q : Sequencer} {e : Nat} (hred : q.context .redLoud ≠ some e)
    (hamber : q.context .amberLoud ≠ some e) : q.rearms e = false := by
  have hloud : q.isLoud e = false := Bool.eq_false_iff.2 fun h => (isLoud_iff.1 h).elim hred hamber
  simp [Sequencer.rearms, hloud]

theorem not_rearms_of_simple {q : Sequencer} (e : Nat) (h : q.indicator.isMulti = false) : q.rearms e = false := by
  simp [Sequencer.rearms, h]

/-- From a blink context the seed is kept (R163). -/
theorem not_rearms_of_blink {q : Sequencer} {e : Nat} (nxt : Nat) (hcur : q.cur = some e) (h : q.isBlink e = true) :
    q.rearms nxt = false := by
  simp [Sequencer.rearms, hcur, h]

/-- A MultiBlinkingLED re-arms its seed when it enters a loud context from null or from no blink context (R163). -/
theorem rearms_iff {q : Sequencer} {e : Nat} (hmulti : q.indicator.isMulti = true) :
    q.rearms e = true ↔ (q.context .redLoud = some e ∨ q.context .amberLoud = some e)
      ∧ ∀ e', q.cur = some e' → q.isBlink e' = false := by
  cases hcur : q.cur <;> simp [Sequencer.rearms, hmulti, hcur, isLoud_iff]

/-! ### The choice -/

theorem chooseNext_of_none {s : State} (q : Sequencer) (hm : s.mode = .none) : chooseNext s q = chooseLocal s q := by
  rw [chooseNext, hm]

theorem chooseLocal_of_multi (s : State) {q : Sequencer} (h : q.indicator.isMulti = true) :
    chooseLocal s q = chooseMulti s q :=
  if_pos h

theorem chooseLocal_of_simple (s : State) {q : Sequencer} (h : q.indicator.isMulti = false) :
    chooseLocal s q = .ok (if isOn s q.indicator then .on else .off) := by
  simp [chooseLocal, h]

theorem chooseMulti_of_redLoud (s : State) {q : Sequencer} (h : q.isAt .redLoud = true) :
    chooseMulti s q = .ok .redQuiet :=
  if_pos h

theorem chooseMulti_of_amberLoud (s : State) {q : Sequencer} (hred : ¬q.isAt .redLoud = true)
    (h : q.isAt .amberLoud = true) : chooseMulti s q = .ok .amberQuiet :=
  (if_neg hred).trans (if_pos h)

/-- In no loud phase the alarms decide, critical first (R162). -/
theorem chooseMulti_of_alarms {s : State} {q : Sequencer} {critical warning : Bool}
    (hred : ¬q.isAt .redLoud = true) (hamber : ¬q.isAt .amberLoud = true)
    (h : alarms s q.indicator = .ok (critical, warning)) :
    chooseMulti s q = .ok (if critical then .redLoud else if warning then .amberLoud else .white) := by
  rw [chooseMulti, if_neg hred, if_neg hamber, h]
  rfl

theorem chooseMulti_of_noValue {s : State} {q : Sequencer} {reg : NoValue} (hred : ¬q.isAt .redLoud = true)
    (hamber : ¬q.isAt .amberLoud = true) (h : alarms s q.indicator = noValue reg) :
    chooseMulti s q = noValue reg := by
  rw [chooseMulti, if_neg hred, if_neg hamber, h]
  rfl

/-! ### Entering and ticking -/

theorem sequencer_of {s : State} {l : Nat} {q : Sequencer} (h : s.sq[l]? = some q) : s.sequencer l = .ok q :=
  sequencer_eq_ok.2 h

/-- The state after context `e`, left as `c` by its activation, has become current in SQ[l] (R158 step 1, R163). -/
def State.entered (s : State) (l : Nat) (q : Sequencer) (e : Nat) (c : Context) (now : Time) : State :=
  { s with
    fx := s.fx.set e c
    fxUsed := s.fxUsed.set e true
    sq := s.sq.set l { q with cur := some e, seed := if q.rearms e then some now else q.seed } }

theorem enter_of {s : State} {l e : Nat} {q : Sequencer} {c : Context} {k : FxConfig} (now : Time)
    (hq : s.sq[l]? = some q) (hc : s.fx[e]? = some c) (hk : c.config = some k) :
    enter l q e now s = .ok (s.entered l q e (c.activate k s.params.flashDuration e now) now) := by
  cases hr : q.rearms e with
  | false =>
    have hseq : ∀ c', ((s.setFx e c').useFx e).sequencer l = .ok q := fun _ => sequencer_of hq
    simp only [enter, hr, fxActivate_of now hc hk, hseq, Bool.false_eq_true, if_false, bind_ok, pure_eq_ok]
    simp [State.entered, hr, State.setSq, State.useFx, State.setFx]
  | true =>
    have hseed : fxSeed l now s = .ok (s.setSq l { q with seed := some now }) := fxSeed_eq_ok.2 ⟨q, hq, rfl⟩
    have hact := fxActivate_of (s := s.setSq l { q with seed := some now }) now hc hk
    have hseq : ∀ c', (((s.setSq l { q with seed := some now }).setFx e c').useFx e).sequencer l
        = .ok { q with seed := some now } := fun _ => sequencer_of (List.getElem?_set_self (lt_of_sequencer hq))
    simp only [enter, hr, hseed, hact, hseq, if_true, bind_ok, pure_eq_ok]
    simp [State.entered, hr, State.setSq, State.useFx, State.setFx]

/-- Step 2 of R158 is FX_TICK of the current context. -/
theorem finish_tickCurrent (e slot : Nat) (now : Time) (s : State) :
    finish (tickCurrent e slot now s) = exec (.fxTick e slot now) s := rfl

theorem exec_sqTick (l : Nat) (now : Time) (s : State) : exec (.sqTick l now) s = finish (sqTick l now s) := rfl

section

variable {s : State} {l e : Nat} {q : Sequencer} {now : Time} {r : Role}

/-- A choice outside the set is an InvariantViolation (60_exceptions.md R186). -/
theorem exec_sqTick_fatal (hq : s.sq[l]? = some q) (hmay : s.MayChoose q now) (hnext : chooseNext s q = .ok r)
    (hctx : q.context r = none) : exec (.sqTick l now) s = .next s.raiseFatal := by
  rw [exec_sqTick, sqTick_of_mayChoose hq hmay]
  simp [chooseAndTick, hnext, hctx]

/-- The context chosen again is ticked alone (R158). -/
theorem exec_sqTick_again (hq : s.sq[l]? = some q) (hmay : s.MayChoose q now) (hnext : chooseNext s q = .ok r)
    (hctx : q.context r = some e) (hcur : q.cur = some e) :
    exec (.sqTick l now) s = exec (.fxTick e q.slot now) s := by
  rw [exec_sqTick, sqTick_of_mayChoose hq hmay, ← finish_tickCurrent]
  simp [chooseAndTick, hnext, hctx, hcur]

/-- Another context chosen is entered and ticked (R158). -/
theorem exec_sqTick_enter {c : Context} {k : FxConfig} (hq : s.sq[l]? = some q) (hmay : s.MayChoose q now)
    (hnext : chooseNext s q = .ok r) (hctx : q.context r = some e) (hcur : q.cur ≠ some e) (hc : s.fx[e]? = some c)
    (hk : c.config = some k) :
    exec (.sqTick l now) s = exec (.fxTick e q.slot now)
      (s.entered l q e (c.activate k s.params.flashDuration e now) now) := by
  rw [exec_sqTick, sqTick_of_mayChoose hq hmay, ← finish_tickCurrent]
  simp [chooseAndTick, hnext, hctx, hcur, enter_of now hq hc hk]

/-- A context that has not expired is ticked, whatever the inputs and the mode say (R158). -/
theorem exec_sqTick_held (hq : s.sq[l]? = some q) (hcur : q.cur = some e)
    (hheld : fxExpired e now s = .ok false) : exec (.sqTick l now) s = exec (.fxTick e q.slot now) s := by
  rw [exec_sqTick, sqTick_of_held hq hcur hheld, finish_tickCurrent]

theorem mayChoose_of_expired (hcur : q.cur = some e) (h : fxExpired e now s = .ok true) : s.MayChoose q now :=
  .inr ⟨e, _, hcur, exec_fxExpired h, rfl⟩

end

/-! ### Contexts of one colour -/

/-- The kinds whose tick writes one colour at every time and keeps the context: Solid and Flash (R119, R123). -/
def FxConfig.HasColour (k : FxConfig) (color : Colour) : Prop :=
  k = .solid color ∨ ∃ half n, k = .flash color half n

theorem FxConfig.HasColour.tickOf {k : FxConfig} {color : Colour} (h : HasColour k color) (p : Config.Params) (e : Nat)
    (c : Context) (now : Time) : tickOf p e c k now = .ok (c, color) := by
  obtain rfl | ⟨half, n, rfl⟩ := h
  · rfl
  · rfl

theorem FxConfig.HasColour.activate {k : FxConfig} {color : Colour} (h : HasColour k color) (c : Context)
    (fd e : Nat) (now : Time) : c.activate k fd e now = { c with tact := some now } := by
  obtain rfl | ⟨half, n, rfl⟩ := h
  · rfl
  · rfl

/-- The colour that the tick of such a context leaves in the slot. -/
theorem exec_fxTick_colour {s : State} {e slot : Nat} {c : Context} {k : FxConfig} {color : Colour} (now : Time)
    (hslot : slot < s.ledCount) (hc : s.fx[e]? = some c) (hk : c.config = some k) (hcol : FxConfig.HasColour k color) :
    ∃ t, exec (.fxTick e slot now) s = .next t ∧ t.sq = s.sq ∧ t.fx = s.fx
      ∧ t.cb.read slot = some color ∧ ∀ a, a ≠ slot → t.cb.read a = s.cb.read a :=
  ⟨_, exec_fxTick_keeping hslot hc hk (hcol.tickOf s.params e c now), rfl, rfl, Memory.read_write_same s.cb slot color,
    fun _ ha => Memory.read_write_other s.cb color ha⟩

/-- What SQ_TICK leaves when the sequencer chooses a context of one colour. -/
theorem exec_sqTick_colour {s : State} {l e : Nat} {q : Sequencer} {now : Time} {r : Role} {k : FxConfig}
    {color : Colour} (hq : s.sq[l]? = some q) (hslot : q.slot < s.ledCount) (hmay : s.MayChoose q now)
    (hnext : chooseNext s q = .ok r) (hctx : q.context r = some e) (hk : s.HasConfig e k)
    (hcol : FxConfig.HasColour k color) :
    ∃ t, exec (.sqTick l now) s = .next t
      ∧ t.sq = s.sq.set l { q with
          cur := some e, seed := if q.cur ≠ some e ∧ q.rearms e = true then some now else q.seed }
      ∧ (q.cur = some e → t.fx = s.fx)
      ∧ (q.cur ≠ some e → ∀ c, s.fx[e]? = some c → t.fx = s.fx.set e { c with tact := some now })
      ∧ t.cb.read q.slot = some color ∧ ∀ a, a ≠ q.slot → t.cb.read a = s.cb.read a := by
  obtain ⟨c, hc, hk⟩ := hk
  by_cases hcur : q.cur = some e
  · obtain ⟨t, ht, hsq, hfx, hcb, hothers⟩ := exec_fxTick_colour now hslot hc hk hcol
    refine ⟨t, (exec_sqTick_again hq hmay hnext hctx hcur).trans ht, ?_, fun _ => hfx, fun h => absurd hcur h, hcb,
      hothers⟩
    rw [hsq, if_neg fun h => h.1 hcur, ← hcur]
    obtain ⟨_, rfl⟩ := List.getElem?_eq_some_iff.1 hq
    exact (List.set_getElem_self _).symm
  · obtain ⟨hlt, -⟩ := List.getElem?_eq_some_iff.1 hc
    have henter := exec_sqTick_enter hq hmay hnext hctx hcur hc hk
    rw [hcol.activate] at henter
    have hslot' : q.slot < (s.entered l q e { c with tact := some now } now).ledCount :=
      hslot.trans_eq List.length_set.symm
    obtain ⟨t, ht, hsq, hfx, hcb, hothers⟩ := exec_fxTick_colour now hslot'
      (c := { c with tact := some now }) (List.getElem?_set_self hlt) hk hcol
    refine ⟨t, henter.trans ht, hsq.trans ?_, fun h => absurd h hcur, fun _ c' hc' => ?_, hcb, hothers⟩
    · simp only [State.entered, ne_eq, hcur, not_false_eq_true, true_and]
    · obtain rfl : c = c' := Option.some.inj (hc.symm.trans hc')
      exact hfx

/-! ### SimpleLED -/

/-- What `is_on` answers for a SimpleLED (R161). -/
theorem chooseNext_simple {s : State} {q : Sequencer} {lit : Bool} (hm : s.mode = .none)
    (h : q.indicator = .acOn ∧ lit = s.snapFrame.signal 2
      ∨ q.indicator = .heatedRearWindow ∧ lit = s.snapFrame.signal 3
      ∨ q.indicator = .hazard ∧ lit = !s.snapFrame.signal 4
      ∨ q.indicator = .rearFogger ∧ lit = s.snapFrame.signal 5
      ∨ q.indicator = .plain ∧ lit = true) :
    q.indicator.isMulti = false ∧ chooseNext s q = .ok (if lit then .on else .off) := by
  have hsimple : q.indicator.isMulti = false ∧ lit = isOn s q.indicator := by
    obtain ⟨hi, hlit⟩ | ⟨hi, hlit⟩ | ⟨hi, hlit⟩ | ⟨hi, hlit⟩ | ⟨hi, hlit⟩ := h
    all_goals
      rw [hi]
      exact ⟨rfl, hlit⟩
  obtain ⟨hmulti, rfl⟩ := hsimple
  exact ⟨hmulti, (chooseNext_of_none q hm).trans (chooseLocal_of_simple s hmulti)⟩

/-- Settles O54: the signal chooses between two Solid contexts, and a SimpleLED never re-arms a seed. -/
theorem simpleLedFollowsItsSignal : Obligations.SimpleLedFollowsItsSignal := by
  unfold Obligations.SimpleLedFollowsItsSignal
  intro s l eOn eOff e q now cOn cOff lit hq hm hslot hlit hon hoff hkOn hkOff hmay he
  obtain ⟨hmulti, hnext⟩ := chooseNext_simple hm hlit
  have hctx : q.context (if lit then .on else .off) = some e := by cases lit <;> simp [he, hon, hoff]
  have hk : s.HasConfig e (.solid (if lit then cOn else cOff)) := by
    subst he
    cases lit
    · exact hkOff
    · exact hkOn
  obtain ⟨t, ht, hsq, hsame, hentered, hcb, hothers⟩ := exec_sqTick_colour hq hslot hmay hnext hctx hk (.inl rfl)
  refine ⟨t, ht, hsq.trans ?_, hsame, hentered, hcb, hothers⟩
  simp [not_rearms_of_simple e hmulti]

/-! ### MultiBlinkingLED -/

/-- A loud context's own quiet one follows it (R162). -/
theorem chooseNext_of_loud {s : State} {q : Sequencer} {e : Nat} {loud quiet : Role} (hm : s.mode = .none)
    (hmulti : q.indicator.isMulti = true)
    (hcolour : loud = .redLoud ∧ quiet = .redQuiet
      ∨ loud = .amberLoud ∧ quiet = .amberQuiet ∧ q.context .redLoud ≠ some e)
    (hctx : q.context loud = some e) (hcur : q.cur = some e) : chooseNext s q = .ok quiet := by
  have hat : q.isAt loud = true := isAt_iff.2 ⟨e, hcur, hctx⟩
  rw [chooseNext_of_none q hm, chooseLocal_of_multi s hmulti]
  obtain ⟨rfl, rfl⟩ | ⟨rfl, rfl, hne⟩ := hcolour
  · exact chooseMulti_of_redLoud s hat
  · refine chooseMulti_of_amberLoud s (fun h => hne ?_) hat
    rw [← (isAt_iff_cur_eq.1 h).2, hcur]

/-- Settles O55: a context that has not expired is ticked; a loud Flash expires with its half-period, and its colour's
quiet context is then entered from a blink context, which keeps the seed. -/
theorem heldUntilExpiredThenOwnQuiet : Obligations.HeldUntilExpiredThenOwnQuiet := by
  unfold Obligations.HeldUntilExpiredThenOwnQuiet
  refine ⟨fun s l e q now u hq hcur hu hb => exec_sqTick_held hq hcur (fxExpired_of_exec hu hb), ?loudPhase⟩
  case loudPhase =>
    intro s l eLoud eQuiet q now seed cLoud cQuiet loud quiet hq hm hslot hindicator hcolour hloud hquiet hcur hseed
      ⟨c, hc, hk⟩ ⟨c', hc', hk'⟩
    have hmulti : q.indicator.isMulti = true := by
      obtain h | h := hindicator <;> rw [h] <;> rfl
    have hexpired : fxExpired eLoud now s = .ok (true != firstHalf s.params.flashDuration now seed) :=
      fxExpired_of hc hk (expiredOf_flash c cLoud true now hq hseed)
    have hhalf := firstHalf_iff s.params.flashDuration now seed
    cases hfirst : firstHalf s.params.flashDuration now seed with
    | true =>
      have hlow := hhalf.1 hfirst
      obtain ⟨t, ht, hsq, hfx, hcb, hothers⟩ := exec_fxTick_colour now hslot hc hk (.inr ⟨true, l, rfl⟩)
      rw [hfirst] at hexpired
      exact ⟨t, (exec_sqTick_held hq hcur hexpired).trans ht, hothers, fun _ => ⟨hsq, hfx, hcb⟩,
        fun hhigh => absurd hlow (Nat.not_lt.2 hhigh)⟩
    | false =>
      rw [hfirst] at hexpired
      have hne : eQuiet ≠ eLoud := by
        rintro rfl
        obtain rfl : c = c' := Option.some.inj (hc.symm.trans hc')
        cases hk.symm.trans hk'
      have hblink : q.isBlink eLoud = true := by
        obtain ⟨rfl, -⟩ | ⟨rfl, -⟩ := hcolour <;> simp [isBlink_iff, hloud]
      obtain ⟨t, ht, hsq, -, hentered, hcb, hothers⟩ := exec_sqTick_colour hq hslot
        (mayChoose_of_expired hcur hexpired) (chooseNext_of_loud hm hmulti hcolour hloud hcur) hquiet ⟨c', hc', hk'⟩
        (.inr ⟨false, l, rfl⟩)
      refine ⟨t, ht, hothers, fun hlow => absurd (hhalf.2 hlow) (by simp [hfirst]), fun _ => ⟨hsq.trans ?_, hcb,
        hentered fun h => hne (Option.some.inj (hcur.symm.trans h)).symm⟩⟩
      simp [not_rearms_of_blink eQuiet hcur hblink]

/-- In no loud phase the alarms choose by priority (R162, R164). -/
theorem chooseNext_by_alarms {s : State} {q : Sequencer} {critical warning : Bool} (hm : s.mode = .none)
    (hmulti : q.indicator.isMulti = true) (halarms : alarms s q.indicator = .ok (critical, warning))
    (hquiet : q.cur = none ∨ (q.cur ≠ q.context .redLoud ∧ q.cur ≠ q.context .amberLoud)) :
    chooseNext s q = .ok (if critical then .redLoud else if warning then .amberLoud else .white) := by
  obtain ⟨hred, hamber⟩ := not_isAt_loud hquiet
  rw [chooseNext_of_none q hm, chooseLocal_of_multi s hmulti, chooseMulti_of_alarms hred hamber halarms]

/-- The seed is re-armed exactly when a loud context is entered from null or from no quiet one, where the sequencer shows
no loud context (R163). -/
theorem enters_and_rearms_iff {q : Sequencer} {e : Nat} (hmulti : q.indicator.isMulti = true)
    (hquiet : q.cur = none ∨ (q.cur ≠ q.context .redLoud ∧ q.cur ≠ q.context .amberLoud)) :
    (q.cur ≠ some e ∧ q.rearms e = true) ↔ (q.context .redLoud = some e ∨ q.context .amberLoud = some e)
      ∧ (q.cur = none ∨ (q.cur ≠ q.context .redQuiet ∧ q.cur ≠ q.context .amberQuiet)) := by
  rw [rearms_iff hmulti]
  cases hcur : q.cur with
  | none => simp
  | some e' =>
    have hblink : q.isBlink e' = false ↔ ¬(q.context .redLoud = some e' ∨ q.context .amberLoud = some e'
        ∨ q.context .redQuiet = some e' ∨ q.context .amberQuiet = some e') := by
      rw [← isBlink_iff, Bool.not_eq_true]
    simp only [hcur, reduceCtorEq, false_or, ne_eq, eq_comm (a := some e'), Option.some.injEq, forall_eq] at hquiet ⊢
    rw [hblink]
    constructor
    · tauto
    · rintro ⟨hloud, hnotQuiet⟩
      refine ⟨?_, hloud, by tauto⟩
      rintro rfl
      tauto

/-- Settles O56: the alarms of the indicator choose by priority, and the chosen context has one colour. -/
theorem multiBlinkingChoosesByPriority : Obligations.MultiBlinkingChoosesByPriority := by
  unfold Obligations.MultiBlinkingChoosesByPriority
  intro s l e q now color critical warning nxt hq hm hslot halarm hnxt hctx hconfig hmay hquiet
  have halarms : q.indicator.isMulti = true ∧ alarms s q.indicator = .ok (critical, warning) := by
    obtain ⟨hi, rfl, rfl⟩ | ⟨i, hin, hi, rfl, rfl⟩ := halarm
    · rw [hi]
      exact ⟨rfl, rfl⟩
    · rw [hi]
      exact ⟨rfl, by simp [alarms, hin]⟩
  obtain ⟨hmulti, halarms⟩ := halarms
  have hnext : chooseNext s q = .ok nxt := hnxt ▸ chooseNext_by_alarms hm hmulti halarms hquiet
  have hkind : ∃ k, s.HasConfig e k ∧ FxConfig.HasColour k color := by
    obtain ⟨-, hk⟩ | ⟨-, hk⟩ := hconfig
    · exact ⟨_, hk, .inl rfl⟩
    · exact ⟨_, hk, .inr ⟨true, l, rfl⟩⟩
  obtain ⟨k, hk, hcol⟩ := hkind
  obtain ⟨t, ht, hsq, hsame, hentered, hcb, hothers⟩ := exec_sqTick_colour hq hslot hmay hnext hctx hk hcol
  refine ⟨t, ht, hsq.trans ?_, hsame, hentered, hcb, hothers⟩
  simp only [enters_and_rearms_iff hmulti hquiet]

/-! ### Effect modes -/

/-- An effect mode names its own context (R159). -/
theorem chooseNext_of_effect {s : State} (q : Sequencer) {nxt : Role}
    (h : s.mode = .rainbow ∧ nxt = .rainbow ∨ s.mode = .sparkle ∧ nxt = .sparkle
      ∨ s.mode = .shimmer ∧ nxt = .shimmer) : chooseNext s q = .ok nxt := by
  obtain ⟨hm, rfl⟩ | ⟨hm, rfl⟩ | ⟨hm, rfl⟩ := h
  all_goals rw [chooseNext, hm]

/-- A legal context that has just been activated can be ticked (R134). -/
theorem tickOf_activate (p : Config.Params) (e : Nat) (c : Context) {k : FxConfig} (now : Time) (hk : k.legal = true) :
    ∃ c' color, tickOf p e (c.activate k p.flashDuration e now) k now = .ok (c', color) := by
  cases k with
  | solid _ | timedSolid _ _ | flash _ _ _ => exact ⟨_, _, rfl⟩
  | rainbow ledCount index => exact ⟨_, _, tickOf_rainbow p e _ now (rainbow_legal_iff.1 hk)⟩
  | sparkle => exact ⟨_, _, tickOf_sparkle p e now rfl rfl⟩
  | shimmer q => exact ⟨_, _, tickOf_shimmer p e now rfl (shimmer_legal_iff.1 hk)⟩

/-- FX_TICK keeps the sequencers, and its context's activation time. -/
theorem exec_fxTick_keeps {s t : State} {e slot : Nat} {now : Time} (h : exec (.fxTick e slot now) s = .next t) :
    t.sq = s.sq ∧ ∀ c, s.fx[e]? = some c → ∃ c', t.fx[e]? = some c' ∧ c'.tact = c.tact := by
  obtain ⟨_, htick, hret⟩ := exists_ok_of_finish_bind h
  cases hret
  obtain ⟨-, c, k, c', color, hc, -, ht, rfl⟩ := fxTick_eq_ok.1 htick
  refine ⟨rfl, fun x hx => ?_⟩
  obtain rfl : c = x := Option.some.inj (hc.symm.trans hx)
  obtain ⟨hlt, -⟩ := List.getElem?_eq_some_iff.1 hc
  exact ⟨c', List.getElem?_set_self hlt, (tickOf_keeps ht).2⟩

/-- Settles O57: the mode's context is entered, which re-arms no seed, and ticked, or where it is current ticked alone. -/
theorem effectModeOverridesTheLocalChoice : Obligations.EffectModeOverridesTheLocalChoice := by
  unfold Obligations.EffectModeOverridesTheLocalChoice
  intro s l e q now k nxt hq hslot hmode hctx hred hamber ⟨c, hc, hk⟩ hlegal hmay
  have hnext : chooseNext s q = .ok nxt := chooseNext_of_effect q (by tauto)
  refine ⟨fun hcur => ?entered, fun hcur => ?again⟩
  case again =>
    have hagain := exec_sqTick_again hq hmay hnext hctx hcur
    exact ⟨hagain, fun t ht => exec_fxTick_keeps (hagain.symm.trans ht)⟩
  case entered =>
    obtain ⟨hlt, -⟩ := List.getElem?_eq_some_iff.1 hc
    obtain ⟨hconfig, htact⟩ := activate_config c k s.params.flashDuration e now
    obtain ⟨c', color, ht⟩ := tickOf_activate s.params e c now hlegal
    have henter : s.entered l q e (c.activate k s.params.flashDuration e now) now = { s with
        fx := s.fx.set e (c.activate k s.params.flashDuration e now), fxUsed := s.fxUsed.set e true
        sq := s.sq.set l { q with cur := some e } } := by
      simp [State.entered, not_rearms_of_not_loud hred hamber]
    have htick := fun r : Result => exec_fxTick
      (s := (s.entered l q e (c.activate k s.params.flashDuration e now) now).ret r)
      (hslot.trans_eq List.length_set.symm) (List.getElem?_set_self hlt) (hconfig.trans hk) ht
    refine ⟨_, _, c', color, exec_fxActivate now hc hk, ?_,
      (exec_sqTick_enter hq hmay hnext hctx hcur hc hk).trans (htick s.result), ?_, ?_, (tickOf_keeps ht).2.trans htact,
      rfl⟩
    · rw [henter] at htick ⊢
      exact htick .nothing
    · rw [henter]
      rfl
    · exact List.getElem?_set_self (hlt.trans_eq List.length_set.symm)

/-! ### Choices that stop -/

/-- Settles O60: a choice outside the set sets FATAL alone. -/
theorem choiceOutsideTheSetIsFatal : Obligations.ChoiceOutsideTheSetIsFatal := by
  unfold Obligations.ChoiceOutsideTheSetIsFatal
  exact fun s l q now nxt hq hmay hnext hctx => exec_sqTick_fatal hq hmay hnext hctx

/-- Settles O42: each operation reads the register that holds no value before it can answer. -/
theorem neverWrittenTimestampsFault : Obligations.NeverWrittenTimestampsFault := by
  unfold Obligations.NeverWrittenTimestampsFault
  refine ⟨fun s e slot c now hc hslot => ⟨fun color lifetime hk htact => ?lifetime,
      fun color half n q hk hq hseed => ?seed, fun hk ht0 => ?sparkle, fun p hk htact => ?shimmer⟩, fun s l q now hq hi hm hin hmay hquiet => ?tachometer⟩
  case lifetime => simp [exec, execFxExpired, fxExpired, configured_of hc hk, expiredOf, htact]
  case seed =>
    simp [exec, execFxExpired, fxExpired, configured_of hc hk, expiredOf, seedRegister_eq_ok.2 ⟨q, hq, hseed⟩]
  case sparkle => simp [exec, execFxTick, fxTick, slotOperand_of_lt hslot, configured_of hc hk, tickOf, ht0]
  case shimmer => simp [exec, execFxTick, fxTick, slotOperand_of_lt hslot, configured_of hc hk, tickOf, htact]
  case tachometer =>
    obtain ⟨hred, hamber⟩ := not_isAt_loud hquiet
    have halarms : alarms s q.indicator = noValue .snapInputs := by simp [hi, alarms, hin]
    have hnext : chooseNext s q = noValue .snapInputs := by
      rw [chooseNext_of_none q hm, chooseLocal_of_multi s (by rw [hi]; rfl), chooseMulti_of_noValue hred hamber halarms]
    rw [exec_sqTick, sqTick_of_mayChoose hq hmay]
    simp [chooseAndTick, hnext]

/-! ### What a SQ_TICK can do to its reference -/

/-- After a SQ_TICK the reference is the one before or the context of the role chosen. -/
theorem sqTick_cur {s t : State} {l : Nat} {q q' : Sequencer} {now : Time} (h : sqTick l now s = .ok t)
    (hq : s.sq[l]? = some q) (hq' : t.sq[l]? = some q') :
    q'.cur = q.cur ∨ ∃ r, chooseNext s q = .ok r ∧ q'.cur = q.context r := by
  have hkept : t.sq = s.sq → q'.cur = q.cur := fun hsq => by
    rw [hsq, hq] at hq'
    rw [Option.some.inj hq']
  have htickSq : ∀ {e u}, tickCurrent e q.slot now u = .ok t → t.sq = u.sq := fun htick => by
    obtain ⟨c, k, c', color, -, -, -, -, rfl⟩ := tickCurrent_cases htick
    rfl
  obtain ⟨x, hx, hcases⟩ := sqTick_cases h
  obtain rfl : q = x := Option.some.inj (hq.symm.trans hx)
  obtain ⟨e, -, -, htick⟩ | ⟨-, hchoose⟩ := hcases
  · exact .inl (hkept (htickSq htick))
  · obtain ⟨r, hnext, ⟨-, rfl⟩ | ⟨e, hctx, ⟨-, htick⟩ | ⟨-, u, henter, htick⟩⟩⟩ := chooseAndTick_cases hchoose
    · exact .inl (hkept rfl)
    · exact .inl (hkept (htickSq htick))
    · obtain ⟨c, k, -, -, rfl⟩ := enter_cases hq henter
      rw [htickSq htick] at hq'
      cases (List.getElem?_set_self (lt_of_sequencer hq)).symm.trans hq'
      exact .inr ⟨r, hnext, hctx.symm⟩

/-- With an effect mode an effect role is chosen (R159). -/
theorem chooseNext_mem_effects {s : State} {q : Sequencer} {r : Role} (hm : s.mode ≠ .none)
    (h : chooseNext s q = .ok r) : r ∈ [Role.rainbow, .sparkle, .shimmer] := by
  unfold chooseNext at h
  cases hmode : s.mode with
  | none => exact absurd hmode hm
  | rainbow | sparkle | shimmer =>
    rw [hmode] at h
    cases h
    decide

/-- A loud phase is left for its own quiet context or for an effect. -/
theorem sqTick_from_loud {s t : State} {l e : Nat} {q q' : Sequencer} {now : Time} {loud quiet : Role}
    (h : sqTick l now s = .ok t) (hq : s.sq[l]? = some q) (hq' : t.sq[l]? = some q')
    (hmulti : q.indicator.isMulti = true) (hcur : q.cur = some e)
    (hcolour : loud = .redLoud ∧ quiet = .redQuiet
      ∨ loud = .amberLoud ∧ quiet = .amberQuiet ∧ q.context .redLoud ≠ some e)
    (hctx : q.context loud = some e) :
    q'.cur = some e ∨ q'.cur = q.context quiet
      ∨ (s.mode ≠ .none ∧ ∃ r ∈ [Role.rainbow, .sparkle, .shimmer], q'.cur = q.context r) := by
  obtain hsame | ⟨r, hnext, hr⟩ := sqTick_cur h hq hq'
  · exact .inl (hsame.trans hcur)
  · by_cases hm : s.mode = .none
    · cases (chooseNext_of_loud hm hmulti hcolour hctx hcur).symm.trans hnext
      exact .inr (.inl hr)
    · exact .inr (.inr ⟨hm, r, chooseNext_mem_effects hm hnext, hr⟩)

/-- Settles O58: the way out of either loud phase, and what a set with contexts of its own makes of it. -/
theorem noDirectChangeBetweenLoudColours : Obligations.NoDirectChangeBetweenLoudColours := by
  unfold Obligations.NoDirectChangeBetweenLoudColours
  intro s t l e q q' now h hq hq' hmulti hcur
  have hred := sqTick_from_loud (finish_eq_next.1 h) hq hq' hmulti hcur (.inl ⟨rfl, rfl⟩)
  have hamber := fun hne : q.context .redLoud ≠ some e =>
    sqTick_from_loud (finish_eq_next.1 h) hq hq' hmulti hcur (.inr ⟨rfl, rfl, hne⟩)
  refine ⟨hred, hamber, fun hne howns => ⟨fun hctx heq => ?fromRed, fun hctx heq => ?fromAmber⟩⟩
  case fromRed =>
    obtain hr | hr | ⟨-, r, hmem, hr⟩ := hred hctx
    · exact hne (hctx.trans (hr.symm.trans heq))
    · exact (howns .redQuiet (by decide)).2 (hr.symm.trans heq)
    · exact (howns r (by revert hmem; cases r <;> decide)).2 (hr.symm.trans heq)
  case fromAmber =>
    obtain hr | hr | ⟨-, r, hmem, hr⟩ := hamber (fun hred' => hne (hred'.trans hctx.symm)) hctx
    · exact hne (heq.symm.trans (hr.trans hctx.symm))
    · exact (howns .amberQuiet (by decide)).1 (hr.symm.trans heq)
    · exact (howns r (by revert hmem; cases r <;> decide)).1 (hr.symm.trans heq)

/-! ### The window of a sequencer (R167) -/

/-- Between `s` and `t` nothing changed but slot `slot`, the reference and the seed of SQ[l], the contexts in `own`, FATAL
and the result port. -/
structure StaysInWindow (slot l : Nat) (own : Nat → Prop) (s t : State) : Prop where
  slots : ∀ a, a ≠ slot → t.cb.read a = s.cb.read a
  others : ∀ l', l' ≠ l → t.sq[l']? = s.sq[l']?
  self : ∀ q, s.sq[l]? = some q → ∃ q', t.sq[l]? = some q' ∧ q' = { q with cur := q'.cur, seed := q'.seed }
  contexts : ∀ e, ¬own e → t.fx[e]? = s.fx[e]? ∧ t.fxInUse e = s.fxInUse e
  rest : t = { s with cb := t.cb, sq := t.sq, fx := t.fx, fxUsed := t.fxUsed, fatal := t.fatal, result := t.result }

namespace StaysInWindow

variable {slot l : Nat} {own : Nat → Prop} {s t u : State}

theorem trans (hst : StaysInWindow slot l own s t) (htu : StaysInWindow slot l own t u) :
    StaysInWindow slot l own s u where
  slots a ha := (htu.slots a ha).trans (hst.slots a ha)
  others l' hl' := (htu.others l' hl').trans (hst.others l' hl')
  self q hq := by
    obtain ⟨q1, hq1, heq1⟩ := hst.self q hq
    obtain ⟨q2, hq2, heq2⟩ := htu.self q1 hq1
    rw [heq1] at heq2
    exact ⟨q2, hq2, heq2⟩
  contexts e he :=
    ⟨(htu.contexts e he).1.trans (hst.contexts e he).1, (htu.contexts e he).2.trans (hst.contexts e he).2⟩
  rest := by
    refine htu.rest.trans ?_
    rw [hst.rest]

theorem fatal (s : State) : StaysInWindow slot l own s s.raiseFatal where
  slots _ _ := rfl
  others _ _ := rfl
  self q hq := ⟨q, hq, rfl⟩
  contexts _ _ := ⟨rfl, rfl⟩
  rest := rfl

/-- A write to FX[e] and its mark leaves every other context and mark. -/
theorem context_frame (s : State) {e e' : Nat} (c : Context) (h : e ≠ e') :
    (s.fx.set e c)[e']? = s.fx[e']? ∧ (s.fxUsed.set e true).getD e' false = s.fxInUse e' := by
  simp [State.fxInUse, List.getElem?_set_ne h]

theorem tick {e : Nat} {now : Time} (he : own e) (h : tickCurrent e slot now s = .ok t) :
    StaysInWindow slot l own s t := by
  obtain ⟨c, k, c', color, -, -, -, -, rfl⟩ := tickCurrent_cases h
  exact {
    slots := fun a ha => Memory.read_write_other s.cb color ha
    others := fun _ _ => rfl
    self := fun q hq => ⟨q, hq, rfl⟩
    contexts := fun e' he' => context_frame s c' fun heq => he' (heq ▸ he)
    rest := rfl }

theorem enter {e : Nat} {q : Sequencer} {now : Time} (he : own e) (hq : s.sq[l]? = some q)
    (h : enter l q e now s = .ok t) : StaysInWindow slot l own s t := by
  obtain ⟨c, k, -, -, rfl⟩ := enter_cases hq h
  exact {
    slots := fun _ _ => rfl
    others := fun _ hl' => List.getElem?_set_ne hl'.symm
    self := fun x hx => by
      obtain rfl : q = x := Option.some.inj (hq.symm.trans hx)
      exact ⟨_, List.getElem?_set_self (lt_of_sequencer hq), rfl⟩
    contexts := fun e' he' => context_frame s _ fun heq => he' (heq ▸ he)
    rest := rfl }

end StaysInWindow

/-- A SQ_TICK touches its current context and contexts of its set alone. -/
theorem sqTick_staysInWindow {s t : State} {l : Nat} {q : Sequencer} {now : Time} (h : sqTick l now s = .ok t)
    (hq : s.sq[l]? = some q) :
    StaysInWindow q.slot l (fun e => q.cur = some e ∨ ∃ r, q.context r = some e) s t := by
  obtain ⟨x, hx, hcases⟩ := sqTick_cases h
  obtain rfl : q = x := Option.some.inj (hq.symm.trans hx)
  obtain ⟨e, hcur, -, htick⟩ | ⟨-, hchoose⟩ := hcases
  · exact .tick (.inl hcur) htick
  · obtain ⟨r, -, ⟨-, rfl⟩ | ⟨e, hctx, ⟨-, htick⟩ | ⟨-, u, henter, htick⟩⟩⟩ := chooseAndTick_cases hchoose
    · exact .fatal s
    · exact .tick (.inr ⟨r, hctx⟩) htick
    · exact (StaysInWindow.enter (.inr ⟨r, hctx⟩) hq henter).trans (.tick (.inr ⟨r, hctx⟩) htick)

/-- Settles O59: every path of a SQ_TICK stays in the window of its sequencer. -/
theorem sequencerStaysInItsOwnWindow : Obligations.SequencerStaysInItsOwnWindow := by
  unfold Obligations.SequencerStaysInItsOwnWindow
  intro s t l q now h hq
  have hwindow := sqTick_staysInWindow (finish_eq_next.1 h) hq
  refine ⟨hwindow.slots, hwindow.others, hwindow.self q hq, fun e hcur hset => hwindow.contexts e ?_, hwindow.rest⟩
  rintro (hown | ⟨r, hown⟩)
  · exact hcur hown
  · exact hset r hown

end Sys2Proof.Machine
